-- ==== Sys2Proof/Word.lean ====
section
/-! DEFINITION. The word type of the part's serial port and of its records: the byte (R182, R196). -/

namespace Sys2Proof

/-- One byte of the service link, or one coded field of a request (R182, R196). -/
abbrev Byte := BitVec 8

end Sys2Proof
end

