-- ==== Sys2Proof/Config.lean ====
section
/-! DEFINITION. What is fixed in the part (lengths and limits the rules state as numbers) and the values the
manual leaves open, which are constants with no body. -/

namespace Sys2Proof.Config

/-- The byte the part reports where the manual states no value, one for each drawing (log 12). -/
opaque freeByte : Nat → Byte

/-- The count the part holds where the manual states no value, one for each drawing (log 13). -/
opaque freeCount : Nat → Nat

/-- The limit of every 32-bit saturating count. -/
def max32 : Nat := 4294967295

/-- The limit of every 16-bit saturating count. -/
def max16 : Nat := 65535

/-- Largest supply or drain figure of one sample, mL (R10). -/
def figureLimit : Nat := 5000

/-- Largest value of the current-day accumulator, mL (R17). -/
def usageDayLimit : Nat := 432000000

/-- The divisor of the load charge, mL per litre × hardness unit × C unit (R27). -/
def loadDivisor : Nat := 25600000

/-- Seconds of snooze after ACK_SALT, 72 h (R60, R61). -/
def snoozeSeconds : Nat := 259200

/-- Age at which an OPTIONAL entry becomes WANTED, 48 h (R92). -/
def agingSeconds : Nat := 172800

/-- Seconds of the drip day (R151). -/
def dripSeconds : Nat := 86400

/-- Seconds of the dormant close wait (R173). -/
def closeWaitSeconds : Nat := 60

/-- Seconds of an enrolment listen (R163). -/
def listenSeconds : Nat := 60

/-- Largest payload of a frame, bytes (R182, R193). -/
def maxPayload : Nat := 96

/-- The sync byte of every frame, C3h (R182). -/
def syncByte : Byte := 0xC3

end Sys2Proof.Config
end

