-- ==== Sys2Proof/Syntax.lean ====
section
/-! DEFINITION. The commands of the part: one constructor for each row of spec/opcode_table.json, with the
inputs the row brings to the part as its operands. A service link message carries its tag and its request fields as
they stand in the frame (R195, R196); a sensor or timing event carries what the sensor delivers (a pulse, a reading in
the stated unit, a loop reply). -/

namespace Sys2Proof

/-- The two volumetric meters (R9), coded supply 0, drain 1 (R196). -/
inductive Meter where
  | supply | drain
  deriving DecidableEq, Repr

/-- The six analog channels, in the order of R19. -/
inductive Channel where
  | pIn | pOut | probeA | probeB | batt | level
  deriving DecidableEq, Repr

/-- The two resin tanks. -/
inductive Tank where
  | a | b
  deriving DecidableEq, Repr

/-- The three units: A, B and F. -/
inductive HeadUnit where
  | a | b | f
  deriving DecidableEq, Repr

/-- The three motorised valves, in the order of R113: V_SHUT, V_FLT, V_SOFT. -/
inductive Valve where
  | shut | flt | soft
  deriving DecidableEq, Repr

/-- What a valve's position sense reads: a position by its code in the order of R113, the span between the position of
that code and the next one, or a combination that no position or span produces. -/
inductive Reading where
  | pos (p : Nat)
  | span (d : Nat)
  | invalid
  deriving DecidableEq, Repr

/-- The state a STATUS reply carries (R155). -/
inductive StatusWord where
  | dry | wet | probeOpen
  deriving DecidableEq, Repr

/-- A clean STATUS reply: the pod's state, its battery in mV from battery pods, its temperature in 0.5 °C (R155). -/
structure PodReport where
  state : StatusWord
  battery : Option Nat
  temperature : Option Int
  deriving DecidableEq, Repr

/-- How a POLL transaction ends: with a clean STATUS or a miss (R155, R159). -/
inductive PollOutcome where
  | clean (report : PodReport)
  | miss
  deriving DecidableEq, Repr

/-- The resets that reach the part from outside the service link (R177). -/
inductive ResetCause where
  | supply | brownout | pin
  deriving DecidableEq, Repr

/-- The blocks that act on a second of the time base, in no order among themselves: the Time Base (R3), the Brine
Monitor (R50, R60), the Drain Queue (R92), the Supply Monitor (R171, R173) and the Loop Master (R157, R163). -/
inductive TickReader where
  | timeBase | brine | queue | supply | loop
  deriving DecidableEq, Repr

/-- The parts that blocks take in a flow sample, in no order among themselves (R16): the Filter Monitor's measures and
its request to the Drain Queue are two, since the queue may take the request after the end of a run (R111). -/
inductive SampleReader where
  | bed | run | leak | filter | filterRequest | queue
  deriving DecidableEq, Repr

/-- The commands. -/
inductive Instr where
  -- time base, metering, analog scan
  | secondTick (order : List TickReader)
  | meterPulse (meter : Meter)
  | meteringIntervalExpiry (order : List SampleReader)
  | meterFault
  | changeoverComplete
  | stepEnd
  | holdEntry
  | holdRelease
  | powerSuspensionLimit
  | runResume
  | runEnd
  | requeueHoldRelease
  | dispatch
  | queueAging
  | unitDeferralExpiry
  | pressureTrigger
  | episodeEnd
  | fixtureMatch
  | limitTrip
  | burstTrip
  | leakIsolated
  | probationEnd
  | probationTrip
  | shutoffPassing
  | dripSuspect
  | channelReading (channel : Channel) (raw : Int)
  | probeTrip
  | reminderTimerExpiry
  | snoozeTimerExpiry
  | mainsSenseChange (present : Bool)
  | mainsConfirmed
  | dormantSequence
  | dormantCloseWaitExpiry
  | dormantEntry
  -- sensor loop
  | pollTimerExpiry
  | pollEnd (outcome : PollOutcome)
  | podSilent
  | enrolDiscoverEnd (serial : Option Nat)
  | enrolAssignEnd (confirmed : Option Nat)
  | listenExpiry
  | recoveryDiscoverEnd (serial : Option Nat)
  | recoveryAssignEnd (confirmed : Option Nat)
  | releaseAssignEnd (confirmed : Option Nat)
  -- valve moves
  | moveGrant (shut flt soft : Reading)
  | settleEnd (reading : Reading)
  | driveTimeout (reading : Reading)
  | positionConfirmed
  | extendStall (reading : Reading)
  | holdEnd
  -- snapshot, reset, link
  | writeEnd
  | resetAsserted (cause : ResetCause)
  | restart
  | receiveGapTimeout
  | frameDiscard (bytes : List Byte)
  | frameOverrun
  | replySent
  | badKind (tag kind : Byte)
  | badLength (tag kind : Byte) (length : Nat)
  -- service link messages
  | identify (tag : Byte)
  | getStatus (tag sectionCode : Byte)
  | getFlow (tag : Byte)
  | getTanks (tag : Byte)
  | getSalt (tag : Byte)
  | getFilter (tag : Byte)
  | getQueue (tag : Byte)
  | getRun (tag : Byte)
  | getEvents (tag : Byte)
  | peekEvents (tag startKind : Byte)
  | setAttentionMask (tag : Byte) (mask : BitVec 32)
  | setParam (tag id : Byte) (value : BitVec 32)
  | getParam (tag id : Byte)
  | setTime (tag day hour minute second : Byte)
  | setQuietMap (tag : Byte) (flags : BitVec 168)
  | getQuietMap (tag : Byte)
  | putStep (tag slot emptyMark phase measure : Byte) (amount : BitVec 16) (capPresent : Byte) (cap : BitVec 16)
      (holdAllowed next : Byte)
  | getStep (tag slot : Byte)
  | setEntry (tag pointer slot : Byte)
  | requestRegen (tag tank mode : Byte)
  | requestBackwash (tag mode : Byte)
  | cancelRun (tag unit : Byte)
  | clearFault (tag valve : Byte)
  | enableProbe (tag tank : Byte)
  | saltAdded (tag : Byte) (mass : BitVec 32)
  | ackSalt (tag : Byte)
  | clearBridge (tag : Byte)
  | setAway (tag onOrOff : Byte)
  | extendEpisode (tag : Byte)
  | ackLeak (tag : Byte)
  | shutoffClose (tag : Byte)
  | shutoffOpen (tag : Byte)
  | putFixture (tag id : Byte) (rateLow rateHigh maxMinutes maxLitres : BitVec 16) (hours : BitVec 24)
      (awayAllowed : Byte)
  | dropFixture (tag id : Byte)
  | getFixture (tag id : Byte)
  | enrolPod (tag policy : Byte)
  | retirePod (tag address : Byte)
  | ackPod (tag address : Byte)
  | getPod (tag address start : Byte)
  | setPodPolicy (tag address policy : Byte)
  | reset (tag option : Byte)
  | linkReset
  | syncByte
  deriving DecidableEq, Repr

end Sys2Proof
end

