-- ==== Sys2Proof/Machine/State.lean ====
section
/-! DEFINITION. The state of the part as plain data, block by block (00_scope.md, Block overview), with the factory
value of every field as its default, and the state right after a cold restart. -/

namespace Sys2Proof.Machine

/-! ## Named values -/

/-- A time of week with the clock-set flag of that moment (R2, R196). -/
structure TimeOfWeek where
  day : Nat := 0
  hour : Nat := 0
  minute : Nat := 0
  second : Nat := 0
  clockSet : Bool := false
  deriving DecidableEq, Repr

/-- Class of a queue entry, lowest first (R87). -/
inductive Cls where
  | optional | wanted | required
  deriving DecidableEq, Repr

/-- Reason of a queue entry (R87). -/
inductive Reason where
  | metered | commanded | resumed | filterVolume | filterDays | filterDp
  deriving DecidableEq, Repr

/-- Why an entry is not eligible, in the order of R94. -/
inductive Blocker where
  | runActive | power | shutoff | leak | valveFault | deferred | noSample | notQuiet | flow | demand
  deriving DecidableEq, Repr

/-- Role of a tank (R21). -/
inductive Role where
  | inService | standby | waiting | regenerating
  deriving DecidableEq, Repr

/-- Urgency of the serving tank (R21, R31). -/
inductive Urgency where
  | ample | due | short | spent
  deriving DecidableEq, Repr

/-- Phase of a step (R64). -/
inductive Phase where
  | backwash | brine | rinse | refill | settle
  deriving DecidableEq, Repr

/-- Measure of a step (R64). -/
inductive Measure where
  | time | volume
  deriving DecidableEq, Repr

/-- State of a run context that is not IDLE (R68). -/
inductive RunState where
  | positioning | running | holding | suspended | finishing
  deriving DecidableEq, Repr

/-- Reason of an abort (R68). -/
inductive AbortReason where
  | commanded | valveFault | programmeError | power | restartLimit
  deriving DecidableEq, Repr

/-- Cause of a PROGRAMME_ERROR (R70, R76, R196). -/
inductive ProgrammeCause where
  | emptySlot | phase | loopLimit
  deriving DecidableEq, Repr

/-- Detail of an abort: the cause and slot of a PROGRAMME_ERROR, the valve of a VALVE_FAULT, nothing else (R196). -/
inductive AbortDetail where
  | none
  | programme (cause : ProgrammeCause) (slot : Nat)
  | valve (v : Valve)
  deriving DecidableEq, Repr

/-- What an abort leaves to report: reason, detail, and the slot and phase at the abort (R82, R85). The phase is its
code; a run refused at an empty slot has no phase, and the byte reported there is a free value (log 12). -/
structure Abort where
  reason : AbortReason
  detail : AbortDetail
  slot : Nat
  phaseCode : Byte
  deriving DecidableEq, Repr

/-- Outcome of a run (R68). -/
inductive RunOutcome where
  | done
  | aborted (abort : Abort)
  deriving DecidableEq, Repr

/-- State of the filter record (R102). -/
inductive FilterState where
  | inService | backwashing | bypassHeld
  deriving DecidableEq, Repr

/-- The latched need found by the pressure measure (R102). -/
inductive PressureTrigger where
  | wanted | required
  deriving DecidableEq, Repr

/-- Status of a valve; a position is its code in the order of R113 (R114). -/
inductive ValveStatus where
  | atPos (p : Nat)
  | moving
  | unknown
  | fault
  deriving DecidableEq, Repr

/-- Direction of travel (R113). -/
inductive Dir where
  | forward | reverse
  deriving DecidableEq, Repr

/-- Class of a move request, highest first (R116). -/
inductive MoveClass where
  | shutClose | shutOpen | park | changeover | run
  deriving DecidableEq, Repr

/-- Requester of a move, in the coding order of R128; a re-issue is carried under its owner. -/
inductive Requester where
  | runController | bedAccounting | shutoffControl | filterMonitor
  deriving DecidableEq, Repr

/-- Phase of a move (R118, R119 to R122). -/
inductive MovePhase where
  | settle | recheck | drive | extend | hold
  deriving DecidableEq, Repr

/-- Answer to a move request (R116). -/
inductive Answer where
  | completion | fault | setAside
  deriving DecidableEq, Repr

/-- Leak state (R142). -/
inductive LeakState where
  | watch | suspect | isolating | isolated | probation
  deriving DecidableEq, Repr

/-- Cause of a trip (R143), in the coding order of R196. -/
inductive LeakCause where
  | duration | volume | burst | pod | probation
  deriving DecidableEq, Repr

/-- Limit class of an episode (R131). -/
inductive LimitClass where
  | active | quiet | away | fixture
  deriving DecidableEq, Repr

/-- The limit a warning reached (R138). -/
inductive LimitReached where
  | duration | volume
  deriving DecidableEq, Repr

/-- Salt stage, best first (R59). -/
inductive Stage where
  | ok | low | out
  deriving DecidableEq, Repr

/-- Policy of a pod (R156). -/
inductive Policy where
  | shutoff | alarm
  deriving DecidableEq, Repr

/-- Loop status of a pod (R156). -/
inductive LoopStatus where
  | active | silent
  deriving DecidableEq, Repr

/-- Reported or acknowledged state of a pod (R156). -/
inductive PodState where
  | unknown | dry | wet | probeOpen
  deriving DecidableEq, Repr

/-- Power regime (R170). -/
inductive Regime where
  | mains | reserve | dormant
  deriving DecidableEq, Repr

/-- Cause of a change of regime (R171, R174), in the coding order of R196. -/
inductive PowerCause where
  | mainsLost | mainsReturned | mainsConfirmed | batteryLow
  deriving DecidableEq, Repr

/-- What the dormant sequence does with the supply (R170). -/
inductive DormantAction where
  | close | hold
  deriving DecidableEq, Repr

/-- Kind of reset (R177). -/
inductive ResetKind where
  | supply | brownout | pin | link
  deriving DecidableEq, Repr

/-- Option of a RESET message (R180). -/
inductive ResetOption where
  | normal | factory
  deriving DecidableEq, Repr

/-- Receive state (R182). -/
inductive RxState where
  | hunt | collecting
  deriving DecidableEq, Repr

/-- Link state (R184). -/
inductive LinkState where
  | listening | answering
  deriving DecidableEq, Repr

/-- Status of a reply, in the coding order of R196. -/
inductive Status where
  | ok | clamped | busy | state | full | notFound | badValue | badKind | badLength | power | fault
  deriving DecidableEq, Repr

/-! ## Settings -/

/-- Every setting of R187's table, at its factory default. -/
structure Settings where
  supplyK : Nat := 450
  drainK : Nat := 450
  refillRate : Nat := 30
  nominalDrain : Nat := 120
  hardness : Nat := 300
  iron : Nat := 0
  ironWeight : Nat := 7
  nominalCapacity : Nat := 12000
  probeFraction : Nat := 20
  minReserve : Nat := 10
  assumedUse : Nat := 600
  tripDelta : Nat := 20
  efficiency : Nat := 50
  depth : Nat := 900
  crossSection : Nat := 1500
  bulkDensity : Nat := 750
  emptyHeight : Nat := 50
  fullDwell : Nat := 21600
  bridgeFactor : Nat := 77
  saltOutFactor : Nat := 64
  lowDays : Nat := 14
  lowMass : Nat := 10000
  reminderInterval : Nat := 24
  holdThreshold : Nat := 80
  holdBudget : Nat := 1800
  powerLimit : Nat := 24
  cancelDeferral : Nat := 60
  filterVolumeLimit : Nat := 20
  filterDayLimit : Nat := 7
  dpLimit : Nat := 60
  trickle : Nat := 2
  activeDuration : Nat := 60
  activeVolume : Nat := 400
  quietDuration : Nat := 20
  quietVolume : Nat := 100
  awayDuration : Nat := 5
  awayVolume : Nat := 20
  burstRate : Nat := 300
  probationRate : Nat := 100
  dripGap : Nat := 30
  freezeThreshold : Int := 6
  dormantThreshold : Nat := 10800
  dormantAction : DormantAction := .close
  deriving DecidableEq, Repr

/-! ## Time Base, Meter Block, Analog Scan (chapter 1) -/

/-- The flags of hours 0 to 5 of every day: the factory quiet map (R5). -/
def factoryQuietMap : BitVec 168 := 0x00003F00003F00003F00003F00003F00003F00003F#168

/-- The Time Base (R2, R5). -/
structure TimeBase where
  clock : TimeOfWeek := {}
  counter : Nat := 0
  quietMap : BitVec 168 := factoryQuietMap
  deriving DecidableEq, Repr

/-- A flow sample (R16). -/
structure Sample where
  time : Nat
  supply : Nat
  drain : Nat
  refill : Nat
  household : Nat
  deficit : Nat
  rate : Nat
  drainValid : Bool
  deriving DecidableEq, Repr

/-- The Meter Block (R9, R10, R13 to R18). `window` holds the most recent household figures, oldest first. -/
structure MeterBlock where
  supplyCount : Nat := 0
  drainCount : Nat := 0
  supplyResidue : Nat := 0
  drainResidue : Nat := 0
  drainValid : Bool := true
  zeroDrain : Nat := 0
  deficit : Nat := 0
  window : List Nat := []
  latest : Option Sample := none
  dayAccum : Nat := 0
  days : List Nat := []
  deriving DecidableEq, Repr

/-- A channel record (R19, R20). -/
structure ChannelRec where
  value : Option Nat := none
  valid : Bool := false
  saturated : Nat := 0
  lastGood : Option Nat := none
  deriving DecidableEq, Repr

/-- The Analog Scan (R19). -/
structure AnalogScan where
  pIn : ChannelRec := {}
  pOut : ChannelRec := {}
  probeA : ChannelRec := {}
  probeB : ChannelRec := {}
  batt : ChannelRec := {}
  level : ChannelRec := {}
  deriving DecidableEq, Repr

/-! ## Bed Accounting (chapter 2) -/

/-- The last regeneration sub-record; `reason` is absent for DONE (R21). -/
structure LastRegen where
  credit : Nat
  salt : Nat
  endTime : TimeOfWeek
  reason : Option AbortReason
  deriving DecidableEq, Repr

/-- A tank record (R21), with the tank's deviation count (R37). -/
structure TankRec where
  role : Role
  credit : Nat := 12000
  remaining : Nat := 12000
  residue : Nat := 0
  urgency : Urgency := .ample
  probeEnabled : Bool := true
  probeArmed : Bool := false
  rinseIncomplete : Bool := false
  regenCount : Nat := 0
  lastRegen : Option LastRegen := none
  deviation : Nat := 0
  deriving DecidableEq, Repr

/-- Tank A in the factory state (R23). -/
def factoryTankA : TankRec := { role := .inService, probeArmed := true }

/-- Tank B in the factory state (R23). -/
def factoryTankB : TankRec := { role := .standby }

/-- Bed Accounting (R21 to R36). -/
structure BedAccounting where
  tankA : TankRec := factoryTankA
  tankB : TankRec := factoryTankB
  factor : Nat := 256
  compensated : Nat := 300
  reserve : Nat := 1800
  hardWater : Bool := false
  hardVolume : Nat := 0
  changePending : Bool := false
  changeClass : Option Cls := none
  deriving DecidableEq, Repr

/-! ## Brine Monitor (chapter 3) -/

/-- The Brine Monitor (R46, R50, R58 to R60). `height` is the salt height of the last accepted reading (R59). -/
structure BrineMonitor where
  model : Nat := 0
  levelMass : Option Nat := none
  comparison : Option Nat := none
  bridge : Bool := false
  regens : Nat := 0
  modelDrop : Nat := 0
  anchor : Option Nat := none
  levelDrop : Nat := 0
  height : Nat := 0
  volume : Nat := 8000
  age : Nat := 43200
  ring : List Nat := [0, 0, 0, 0, 0, 0, 0]
  accum : Nat := 0
  stage : Stage := .ok
  reminder : Option Nat := none
  snooze : Option Nat := none
  deriving DecidableEq, Repr

/-! ## Run Controller (chapter 4) -/

/-- A step record; `next` is absent for END (R64). -/
structure Step where
  phase : Phase
  measure : Measure
  amount : Nat
  cap : Option Nat
  holdAllowed : Bool
  next : Option Nat
  deriving DecidableEq, Repr

/-- The factory step table (R64). -/
def factoryTable : List (Option Step) :=
  [some ⟨.backwash, .time, 600, none, true, some 2⟩,
   some ⟨.brine, .time, 3600, none, false, some 3⟩,
   some ⟨.rinse, .volume, 600, some 600, true, some 4⟩,
   some ⟨.refill, .volume, 80, none, false, none⟩,
   none, none, none, none,
   some ⟨.backwash, .time, 600, none, true, some 10⟩,
   some ⟨.rinse, .time, 180, none, true, none⟩,
   none, none, none, none, none, none]

/-- What the Run Controller's awaited move is for (R70, R77, R80, R83). -/
inductive AwaitKind where
  | step | hold | park | finish
  deriving DecidableEq, Repr

/-- The Run Controller's latest move request (R68). -/
structure Awaited where
  valve : Valve
  target : Nat
  kind : AwaitKind
  deriving DecidableEq, Repr

/-- The run context while it is not IDLE (R68). `budgetAtDispatch` is the setting at dispatch (R84); `abortedSalt` is
the partial figure that an abort during BRINE took back, none without such an abort (R55, R82, log 32); `restored` says
that a restart restored the run and it has not resumed since (R179, log 51). -/
structure RunCtx where
  unit : HeadUnit
  cls : Cls
  reason : Reason
  state : RunState := .positioning
  slot : Option Nat := none
  steps : Nat := 1
  elapsed : Nat := 0
  stepVolume : Nat := 0
  refilled : Nat := 0
  refillTarget : Nat := 0
  posReached : Bool := false
  awaited : Option Awaited := none
  holdCount : Nat := 0
  releaseCount : Nat := 0
  budget : Nat := 0
  budgetAtDispatch : Nat := 0
  susShutoff : Bool := false
  susPower : Bool := false
  parked : Bool := false
  powerSuspended : Nat := 0
  suspendedTotal : Nat := 0
  startCounter : Nat := 0
  startTime : TimeOfWeek := {}
  saltComputed : Bool := false
  brineDone : Bool := false
  dissolved : Option Nat := none
  abortedSalt : Option Nat := none
  pendingCredit : Nat := 0
  restarts : Nat := 0
  restored : Bool := false
  outcome : Option RunOutcome := none
  deriving DecidableEq, Repr

/-- What releases a re-queue hold (R85). -/
inductive HoldCondition where
  | valveClear | programmeEdit
  deriving DecidableEq, Repr

/-- A re-queue hold (R85). -/
structure RequeueHold where
  unit : HeadUnit
  cls : Cls
  condition : HoldCondition
  deriving DecidableEq, Repr

/-- The Run Controller (R64, R65, R68, R85, R175); an absent context is IDLE. -/
structure RunController where
  table : List (Option Step) := factoryTable
  softEntry : Nat := 1
  filterEntry : Nat := 9
  ctx : Option RunCtx := none
  copy : Option RunCtx := none
  holds : List RequeueHold := []
  deriving DecidableEq, Repr

/-! ## Drain Queue (chapter 5) -/

/-- A queue entry (R87); `joined` numbers the joins, for the order of equal ages (R91). -/
structure Entry where
  unit : HeadUnit
  cls : Cls
  reason : Reason
  age : Nat
  entered : TimeOfWeek
  deferral : Nat
  joined : Nat
  deriving DecidableEq, Repr

/-- The Drain Queue (R87, R92, R93); `entries` stands in dispatch order (R91). -/
structure DrainQueue where
  entries : List Entry := []
  joins : Nat := 0
  grant : Option HeadUnit := none
  deferA : Option Nat := none
  deferB : Option Nat := none
  deferF : Option Nat := none
  still : Nat := 0
  keptRate : Option Nat := none
  deriving DecidableEq, Repr

/-! ## Filter Monitor (chapter 6) -/

/-- The filter record (R102). -/
structure FilterMonitor where
  state : FilterState := .bypassHeld
  volume : Nat := 0
  days : Nat := 0
  highCount : Nat := 0
  trigger : Option PressureTrigger := none
  lastDp : Option Nat := none
  unfiltered : Nat := 0
  deriving DecidableEq, Repr

/-! ## Valve Drive (chapter 7) -/

/-- A move request of one valve with its arrival stamp (R116). -/
structure MoveReq where
  target : Nat
  cls : MoveClass
  requester : Requester
  stamp : Nat
  deriving DecidableEq, Repr

/-- A valve's status record (R114) and its position sense, an input (R113). -/
structure ValveRec where
  status : ValveStatus := .unknown
  lastDir : Option Dir := none
  waiting : Option MoveReq := none
  sense : Reading := .span 0
  deriving DecidableEq, Repr

/-- The driver grant's move record (R118); `nominal` is the nominal drive time in seconds (R121). -/
structure Grant where
  valve : Valve
  target : Nat
  cls : MoveClass
  req : Option MoveReq
  phase : MovePhase
  retry : Bool
  dir : Option Dir
  nominal : Nat
  deriving DecidableEq, Repr

/-- The Valve Drive (R114, R116, R118). -/
structure ValveDrive where
  shut : ValveRec := {}
  flt : ValveRec := {}
  soft : ValveRec := {}
  grant : Option Grant := none
  stamps : Nat := 0
  deriving DecidableEq, Repr

/-! ## Leak Monitor (chapter 8) -/

/-- An episode record (R131). -/
structure Episode where
  startCounter : Nat
  startTime : TimeOfWeek
  age : Nat
  volume : Nat
  peak : Nat
  average : Option Nat
  fixture : Option Nat
  cls : LimitClass
  durationLimit : Nat
  volumeLimit : Nat
  prewarned : Bool
  extended : Bool
  still : Nat
  deriving DecidableEq, Repr

/-- A fixture record (R134). -/
structure Fixture where
  rateLow : Nat
  rateHigh : Nat
  maxMinutes : Nat
  maxLitres : Nat
  hours : BitVec 24
  awayAllowed : Bool
  deriving DecidableEq, Repr

/-- The leak record (R143). -/
structure LeakRec where
  cause : LeakCause
  counter : Nat
  time : TimeOfWeek
  volume : Nat
  pod : Option Nat
  deriving DecidableEq, Repr

/-- The close-reason set (R146). -/
structure CloseSet where
  leak : Bool := false
  commanded : Bool := false
  dormant : Bool := false
  deriving DecidableEq, Repr

/-- The Leak Monitor and its shutoff control (R130 to R151). -/
structure LeakMonitor where
  episode : Option Episode := none
  fixtures : List (Option Fixture) := List.replicate 16 none
  state : LeakState := .watch
  record : Option LeakRec := none
  acknowledged : Bool := false
  closeSet : CloseSet := {}
  burst : Option Nat := none
  probation : Nat := 0
  high : Nat := 0
  passing : Nat := 0
  passingFlag : Bool := false
  passingVolume : Nat := 0
  drip : Nat := 0
  quietRun : Nat := 0
  longestRun : Nat := 0
  away : Bool := false
  deriving DecidableEq, Repr

/-! ## Loop Master (chapter 9) -/

/-- A pod record (R156). -/
structure Pod where
  address : Nat
  serial : Nat
  policy : Policy
  status : LoopStatus := .active
  reported : PodState := .unknown
  acknowledged : PodState := .unknown
  misses : Nat := 0
  battery : Option Nat := none
  batteryLow : Bool := false
  temperature : Option Int := none
  cold : Bool := false
  lastReply : Option Nat := none
  deriving DecidableEq, Repr

/-- A serial and the address offered to it (R163), sent back to it (R164, R166), or to be given up by it (R167). -/
structure Offer where
  serial : Nat
  address : Nat
  deriving DecidableEq, Repr

/-- The listen record (R163). After a reset, when no listen has run, its policy stands at SHUTOFF and its seconds at 0
(log 42). `muted` is no field of R163's record: the listen has run into DORMANT and sends nothing more, also where
DORMANT is left before its expiry (R165). -/
structure Listen where
  running : Bool := false
  policy : Policy := .shutoff
  seconds : Nat := 0
  candidate : Option Offer := none
  muted : Bool := false
  deriving DecidableEq, Repr

/-- An outstanding release (R167). -/
structure Release where
  serial : Nat
  address : Nat
  tries : Nat
  deriving DecidableEq, Repr

/-- The loop transaction in flight (R155): `enrolAssign` carries whether the serial is already in the table (R164). -/
inductive Transaction where
  | poll (address : Nat)
  | release (offer : Offer)
  | enrolDiscover
  | enrolAssign (offer : Offer) (known : Bool)
  | recoveryDiscover
  | recoveryAssign (offer : Offer)
  deriving DecidableEq, Repr

/-- The Loop Master (R156, R157, R163, R167) with the poll cycle in progress (R158): the last address polled, whether
the cycle's first pass of POLLs and its closing transactions are over, the releases still to send in it; `stopping` says
that DORMANT has begun in it, so that it stops at the end of the transaction in flight (R157). -/
structure LoopMaster where
  pods : List Pod := []
  pollTimer : Nat := 0
  listen : Listen := {}
  releases : List Release := []
  inFlight : Option Transaction := none
  lastPolled : Nat := 0
  pollsOver : Bool := false
  closingOver : Bool := false
  toRelease : List Offer := []
  firstSinceDormant : Bool := false
  stopping : Bool := false
  deriving DecidableEq, Repr

/-! ## Events and the Service Link (chapter 11) -/

/-- An event with the detail of its raising, one constructor for each kind of R196's table. -/
inductive Event where
  | reset (kind : ResetKind) (option : ResetOption) (restored resumed : Bool)
  | snapshotLost
  | clockUnset
  | powerChange (before after : Regime) (cause : PowerCause) (batt : Option Nat)
  | sensorFault (channel : Channel)
  | meterFault (meter : Meter) (unit : HeadUnit) (phase : Phase)
  | changeover (leaving entering : Tank) (remaining : Nat) (rinseIncomplete : Bool)
  | hardWater (serving : Tank) (otherRole : Role) (changeoverFault : Bool)
  | probeCorrection (tank : Tank) (cBefore cAfter rBefore rAfter : Nat)
  | probeFault (tank : Tank) (credit remaining : Nat)
  | runStarted (unit : HeadUnit) (cls : Cls) (reason : Reason) (age slot : Nat)
  | runDone (unit : HeadUnit) (salt credit steps duration suspended budgetUsed : Nat)
  | runAborted (unit : HeadUnit) (abort : Abort) (brineDone : Bool)
  | stepCapped (unit : HeadUnit) (slot : Nat) (phase : Phase) (volume amount : Nat)
  | holdBudgetSpent (unit : HeadUnit) (slot : Nat)
  | rinseIncomplete (tank : Tank) (credit : Nat)
  | filterClogged (dpNorm dp rate litres : Nat)
  | saltReminder (stage : Stage) (estimate : Nat) (days : Option Nat)
  | saltBridge (model level regens modelDrop levelDrop : Nat)
  | saltDetectedAdd (before level : Nat)
  | valveFault (valve : Valve) (target : Nat) (cls : MoveClass) (reading : Reading)
  | shutoffPassing (volume : Nat) (reasons : CloseSet)
  | leakWarning (limit : LimitReached) (cls : LimitClass) (fixture : Option Nat) (age volume : Nat)
  | leakIsolated (cause : LeakCause) (volume : Nat) (pod : Option Nat) (seconds : Nat)
  | dripSuspect (longest : Nat)
  | podWet (address serial : Nat) (policy : Policy)
  | podSilent (address serial : Nat) (reported : PodState)
  | podBattery (address battery : Nat)
  | podCold (address : Nat) (temperature : Int)
  | enrolDone (address serial : Option Nat) (policy : Policy)
  deriving DecidableEq, Repr

/-- An entry of the pending-event set (R188): the event of the first occurrence, the count, its time. -/
structure PendingEvent where
  event : Event
  count : Nat
  time : Nat
  deriving DecidableEq, Repr

/-- The factory attention mask: the flags of kinds 01h to 1Eh set (R191). -/
def factoryMask : BitVec 32 := 0x3FFFFFFF#32

/-- The Service Link (R182 to R192); `events` stands in ascending kind code. -/
structure ServiceLink where
  rx : RxState := .hunt
  collected : List Byte := []
  framingErrors : Nat := 0
  state : LinkState := .listening
  overruns : Nat := 0
  reply : Option (List Byte) := none
  events : List PendingEvent := []
  mask : BitVec 32 := factoryMask
  attn : Bool := false
  deriving DecidableEq, Repr

/-! ## Supply Monitor and Snapshot Store (chapter 10) -/

/-- The Supply Monitor (R170) and the mains sense input. -/
structure SupplyMonitor where
  regime : Regime := .reserve
  mainsPin : Bool := true
  mainsPresent : Bool := true
  confirm : Nat := 0
  lowCount : Nat := 0
  closeWait : Option Nat := none
  deriving DecidableEq, Repr

/-- The contents of the snapshot image (R175). A tank record in it has load residue and deviation count 0, and a pod
record only its address, serial, policy and acknowledged state. -/
structure Image where
  settings : Settings := {}
  quietMap : BitVec 168 := factoryQuietMap
  dayAccum : Nat := 0
  days : List Nat := []
  tankA : TankRec := factoryTankA
  tankB : TankRec := factoryTankB
  factor : Nat := 256
  brineVolume : Nat := 8000
  brineAge : Nat := 43200
  saltModel : Nat := 0
  comparison : Option Nat := none
  bridge : Bool := false
  regens : Nat := 0
  modelDrop : Nat := 0
  anchor : Option Nat := none
  levelDrop : Nat := 0
  ring : List Nat := [0, 0, 0, 0, 0, 0, 0]
  accum : Nat := 0
  table : List (Option Step) := factoryTable
  softEntry : Nat := 1
  filterEntry : Nat := 9
  copy : Option RunCtx := none
  holds : List RequeueHold := []
  entries : List Entry := []
  joins : Nat := 0
  deferA : Option Nat := none
  deferB : Option Nat := none
  deferF : Option Nat := none
  filterVolume : Nat := 0
  filterDays : Nat := 0
  trigger : Option PressureTrigger := none
  away : Bool := false
  fixtures : List (Option Fixture) := List.replicate 16 none
  closeSet : CloseSet := {}
  acknowledged : Bool := false
  record : Option LeakRec := none
  pods : List Pod := []
  mask : BitVec 32 := factoryMask
  deriving DecidableEq, Repr

/-- The factory image: the factory state of every block (R175). -/
def factoryImage : Image := {}

/-- The Snapshot Store (R175, R176): no image is an invalid one; WRITING holds the contents being written. -/
structure SnapshotStore where
  image : Option Image := none
  writing : Option Image := none
  further : Bool := false
  deriving DecidableEq, Repr

/-- A reset: its kind, with the option of a LINK reset (R177). -/
structure ResetCall where
  kind : ResetKind
  option : ResetOption := .normal
  deriving DecidableEq, Repr

/-- The reset record (R177). -/
structure ResetRecord where
  kind : ResetKind := .supply
  option : ResetOption := .normal
  restored : Bool := false
  resumed : Bool := false
  deriving DecidableEq, Repr

/-- Resets: the part held in reset, a reset held until a write ends (R176), a RESET request whose LINK reset has not
taken effect (R180), and the reset record (R177). -/
structure ResetControl where
  inReset : Option ResetCall := none
  held : Option ResetCall := none
  linkDue : Option ResetOption := none
  record : ResetRecord := {}
  deriving DecidableEq, Repr

/-! ## The state -/

/-- What travels between blocks within one action: a change of a valve's status (R114), an answer to a move request
(R116), and the two re-evaluations, of the arbiter (R118) and of the drain grant (R95). -/
inductive Signal where
  | status (v : Valve) (before after : ValveStatus)
  | answer (v : Valve) (req : MoveReq) (result : Answer)
  | arbitrate
  | regrant
  deriving DecidableEq, Repr

/-- Everything the part holds. `pending` is the queue of commands; `signals`, `writeDue` and `freeSeed` are the model's
own (log 28, 16, 12); `alarm` is the ALARM line (R152). -/
structure State where
  pending : List Instr := []
  settings : Settings := {}
  time : TimeBase := {}
  meter : MeterBlock := {}
  analog : AnalogScan := {}
  bed : BedAccounting := {}
  brine : BrineMonitor := {}
  run : RunController := {}
  queue : DrainQueue := {}
  filter : FilterMonitor := {}
  valves : ValveDrive := {}
  leak : LeakMonitor := {}
  loop : LoopMaster := {}
  supply : SupplyMonitor := {}
  store : SnapshotStore := {}
  resets : ResetControl := {}
  link : ServiceLink := {}
  alarm : Bool := false
  signals : List Signal := []
  writeDue : Bool := false
  freeSeed : Nat := 0
  deriving DecidableEq, Repr

/-- The part right after its first restart: a SUPPLY reset with no image ever written (R2, R175, R178). Every block is
in its factory state; the salt evaluation of R62 has found the stage OUT; the three standing targets have been
re-issued with class PARK in the order V_SHUT, V_FLT, V_SOFT (R125) and wait for their grant. -/
def State.reset : State where
  brine := { stage := .out, reminder := some 86400 }
  valves :=
    { shut := { waiting := some ⟨0, .park, .shutoffControl, 0⟩ }
      flt := { waiting := some ⟨0, .park, .filterMonitor, 1⟩ }
      soft := { waiting := some ⟨0, .park, .bedAccounting, 2⟩ }
      stamps := 3 }
  link :=
    { events :=
        [⟨.reset .supply .normal false false, 1, 0⟩, ⟨.snapshotLost, 1, 0⟩, ⟨.clockUnset, 1, 0⟩,
         ⟨.saltReminder .out 0 none, 1, 0⟩]
      attn := true }

/-- Reasons the part could stop: the manual stops the part nowhere, so this type has no constructor and no command
ends in a fault (safe: nothing is claimed of it). -/
inductive Fault where
  deriving DecidableEq, Repr

/-- Reasons to give a command no meaning. -/
inductive Refusal where
  /-- Raised by an arm of exec that gives the command no meaning yet (safe). -/
  | notModelled (mnemonic : String)
  deriving DecidableEq, Repr

end Sys2Proof.Machine
end

