-- ==== Sys2Proof/Machine/Ops.lean ====
section
/-! DEFINITION. The operations every block uses: whole-number arithmetic with limits (R1), raising an event (R188),
reporting a write trigger (R176), free values, tank and slot access, settings by parameter id (R187), and the orders
the manual leaves open. -/

namespace Sys2Proof

/-- The other tank: Y where X is the tank concerned. -/
def Tank.other : Tank → Tank
  | .a => .b
  | .b => .a

/-- The unit a tank is. -/
def Tank.unit : Tank → HeadUnit
  | .a => .a
  | .b => .b

/-- The tank a unit is, none for F. -/
def HeadUnit.tank : HeadUnit → Option Tank
  | .a => some .a
  | .b => some .b
  | .f => none

/-- The valve of a unit: V_SOFT for a tank, V_FLT for the filter (R70). -/
def HeadUnit.valve : HeadUnit → Valve
  | .a => .soft
  | .b => .soft
  | .f => .flt

end Sys2Proof

namespace Sys2Proof.Machine

/-! ## Arithmetic (R1) -/

/-- Saturating addition: what would pass the limit stays at it. -/
def satAdd (limit a b : Nat) : Nat := min limit (a + b)

/-- A quantity clamped into a range. -/
def clampNat (lo hi x : Nat) : Nat := max lo (min hi x)

/-- A signed quantity clamped into a range. -/
def clampInt (lo hi x : Int) : Int := max lo (min hi x)

/-- The elements of a list, added up. -/
def total (l : List Nat) : Nat := l.foldl (· + ·) 0

/-- The takers in the order the command gives, each once, and after them the takers it does not name, in their own
order: every order the manual leaves open is one of these (log 3). -/
def takingOrder {α : Type} [BEq α] (given all : List α) : List α :=
  (given ++ all).foldl (fun acc x => if acc.contains x then acc else acc ++ [x]) []

/-! ## Events, write triggers, signals -/

/-- Kind code of an event (R196). -/
def eventCode : Event → Nat
  | .reset .. => 0x01
  | .snapshotLost => 0x02
  | .clockUnset => 0x03
  | .powerChange .. => 0x04
  | .sensorFault .. => 0x05
  | .meterFault .. => 0x06
  | .changeover .. => 0x07
  | .hardWater .. => 0x08
  | .probeCorrection .. => 0x09
  | .probeFault .. => 0x0A
  | .runStarted .. => 0x0B
  | .runDone .. => 0x0C
  | .runAborted .. => 0x0D
  | .stepCapped .. => 0x0E
  | .holdBudgetSpent .. => 0x0F
  | .rinseIncomplete .. => 0x10
  | .filterClogged .. => 0x11
  | .saltReminder .. => 0x12
  | .saltBridge .. => 0x13
  | .saltDetectedAdd .. => 0x14
  | .valveFault .. => 0x15
  | .shutoffPassing .. => 0x16
  | .leakWarning .. => 0x17
  | .leakIsolated .. => 0x18
  | .dripSuspect .. => 0x19
  | .podWet .. => 0x1A
  | .podSilent .. => 0x1B
  | .podBattery .. => 0x1C
  | .podCold .. => 0x1D
  | .enrolDone .. => 0x1E

/-- An event joins the set in kind order, or adds to the count of its kind's entry, whose time and detail stay
(R188). -/
def insertEvent (now : Nat) (e : Event) : List PendingEvent → List PendingEvent
  | [] => [⟨e, 1, now⟩]
  | p :: ps =>
    if eventCode p.event = eventCode e then { p with count := satAdd 255 p.count 1 } :: ps
    else if eventCode e < eventCode p.event then ⟨e, 1, now⟩ :: p :: ps
    else p :: insertEvent now e ps

/-- An event is raised (R188). -/
def raiseEvent (e : Event) (s : State) : State :=
  { s with link.events := insertEvent s.time.counter e s.link.events }

/-- A block reports a write trigger; the write begins at the end of the action (R176, log 16). -/
def writeTrigger (s : State) : State := { s with writeDue := true }

/-- A report or an answer sets out within the action. -/
def push (sig : Signal) (s : State) : State := { s with signals := s.signals ++ [sig] }

/-- The byte of a value the manual does not state; each drawing is a fresh one (log 12). -/
def drawByte (s : State) : Byte × State := (Config.freeByte s.freeSeed, { s with freeSeed := s.freeSeed + 1 })

/-! ## Tanks, channels, slots -/

/-- The record of a tank. -/
def tankRec (t : Tank) (s : State) : TankRec :=
  match t with
  | .a => s.bed.tankA
  | .b => s.bed.tankB

/-- A tank's record is replaced. -/
def setTank (t : Tank) (r : TankRec) (s : State) : State :=
  match t with
  | .a => { s with bed.tankA := r }
  | .b => { s with bed.tankB := r }

/-- The tank whose role is IN_SERVICE; exactly one is (R22). -/
def servingTank (s : State) : Tank := if s.bed.tankA.role = .inService then .a else .b

/-- The probe channel of a tank (R37). -/
def probeChannel : Tank → Channel
  | .a => .probeA
  | .b => .probeB

/-- A channel's record (R19). -/
def channelRec (c : Channel) (s : State) : ChannelRec :=
  match c with
  | .pIn => s.analog.pIn
  | .pOut => s.analog.pOut
  | .probeA => s.analog.probeA
  | .probeB => s.analog.probeB
  | .batt => s.analog.batt
  | .level => s.analog.level

/-- A channel's record is replaced. -/
def setChannel (c : Channel) (r : ChannelRec) (s : State) : State :=
  match c with
  | .pIn => { s with analog.pIn := r }
  | .pOut => { s with analog.pOut := r }
  | .probeA => { s with analog.probeA := r }
  | .probeB => { s with analog.probeB := r }
  | .batt => { s with analog.batt := r }
  | .level => { s with analog.level := r }

/-- The contents of slot `n` of a table whose slots are numbered from 1; none where it is empty or does not exist. -/
def slotOf {α : Type} (table : List (Option α)) (n : Nat) : Option α :=
  match n with
  | 0 => none
  | k + 1 => (table[k]?).join

/-- Slot `n` of a table, numbered from 1, is replaced. -/
def setSlot {α : Type} (table : List (Option α)) (n : Nat) (x : Option α) : List (Option α) :=
  match n with
  | 0 => table
  | k + 1 => table.set k x

/-- A valve's record (R114). -/
def valveRec (v : Valve) (s : State) : ValveRec :=
  match v with
  | .shut => s.valves.shut
  | .flt => s.valves.flt
  | .soft => s.valves.soft

/-- A valve's record is replaced. -/
def setValve (v : Valve) (r : ValveRec) (s : State) : State :=
  match v with
  | .shut => { s with valves.shut := r }
  | .flt => { s with valves.flt := r }
  | .soft => { s with valves.soft := r }

/-- A unit's deferral (R92). -/
def unitDeferral (u : HeadUnit) (s : State) : Option Nat :=
  match u with
  | .a => s.queue.deferA
  | .b => s.queue.deferB
  | .f => s.queue.deferF

/-- A unit's deferral is replaced (R92). -/
def setDeferral (u : HeadUnit) (d : Option Nat) (s : State) : State :=
  match u with
  | .a => { s with queue.deferA := d }
  | .b => { s with queue.deferB := d }
  | .f => { s with queue.deferF := d }

/-! ## Positions (R113, R70) -/

/-- V_SHUT OPEN. -/
def posOpen : Nat := 0
/-- V_SHUT CLOSED. -/
def posClosed : Nat := 1
/-- V_FLT SERVICE. -/
def posService : Nat := 0

/-- V_SOFT SRV_X. -/
def servicePos : Tank → Nat
  | .a => 0
  | .b => 1

/-- V_SOFT X_REFILL. -/
def refillPos : Tank → Nat
  | .a => 5
  | .b => 9

/-- The step position of a unit and phase (R70); a phase the unit may not use has no step of its own. -/
def stepPosition (u : HeadUnit) (p : Phase) : Nat :=
  match u, p with
  | .a, .backwash => 2
  | .a, .brine => 3
  | .a, .rinse => 4
  | .a, .refill => 5
  | .a, .settle => servicePos .b
  | .b, .backwash => 6
  | .b, .brine => 7
  | .b, .rinse => 8
  | .b, .refill => 9
  | .b, .settle => servicePos .a
  | .f, .backwash => 1
  | .f, .rinse => 2
  | .f, .settle => 3
  | .f, .brine => posService
  | .f, .refill => posService

/-- The hold, park and finishing position of a unit: SRV_Y for tank X, SERVICE for the filter (R70, R83). -/
def restPosition : HeadUnit → Nat
  | .a => servicePos .b
  | .b => servicePos .a
  | .f => posService

/-- The valve stands AT this position. -/
def isAt (v : Valve) (p : Nat) (s : State) : Bool := (valveRec v s).status == .atPos p

/-- The valve is in FAULT. -/
def isFault (v : Valve) (s : State) : Bool := (valveRec v s).status == .fault

/-! ## Settings by parameter id (R187) -/

/-- A setting of the parameter table. -/
inductive Param where
  | supplyK | drainK | refillRate | nominalDrain | hardness | iron | ironWeight | nominalCapacity
  | probeFraction | minReserve | assumedUse | tripDelta | efficiency | depth | crossSection | bulkDensity
  | emptyHeight | fullDwell | bridgeFactor | saltOutFactor | lowDays | lowMass | reminderInterval
  | holdThreshold | holdBudget | powerLimit | cancelDeferral | filterVolumeLimit | filterDayLimit | dpLimit
  | trickle | activeDuration | activeVolume | quietDuration | quietVolume | awayDuration | awayVolume
  | burstRate | probationRate | dripGap | freezeThreshold | dormantThreshold | dormantAction
  deriving DecidableEq, Repr

/-- The settings in the order of their ids, from 01h on. -/
def paramList : List Param :=
  [.supplyK, .drainK, .refillRate, .nominalDrain, .hardness, .iron, .ironWeight, .nominalCapacity,
   .probeFraction, .minReserve, .assumedUse, .tripDelta, .efficiency, .depth, .crossSection, .bulkDensity] ++
  [.emptyHeight, .fullDwell, .bridgeFactor, .saltOutFactor, .lowDays, .lowMass, .reminderInterval,
   .holdThreshold, .holdBudget, .powerLimit, .cancelDeferral, .filterVolumeLimit, .filterDayLimit, .dpLimit] ++
  [.trickle, .activeDuration, .activeVolume, .quietDuration, .quietVolume, .awayDuration, .awayVolume,
   .burstRate, .probationRate, .dripGap, .freezeThreshold, .dormantThreshold, .dormantAction]

/-- The setting a parameter id names; none for an id outside the table. -/
def paramOfId (id : Byte) : Option Param :=
  match id.toNat with
  | 0 => none
  | k + 1 => paramList[k]?

/-- The range of a setting (R187). -/
def paramRange : Param → Int × Int
  | .supplyK => (1, 2000)
  | .drainK => (1, 2000)
  | .refillRate => (10, 200)
  | .nominalDrain => (10, 600)
  | .hardness => (0, 2000)
  | .iron => (0, 2000)
  | .ironWeight => (0, 50)
  | .nominalCapacity => (1000, 60000)
  | .probeFraction => (5, 50)
  | .minReserve => (5, 50)
  | .assumedUse => (50, 5000)
  | .tripDelta => (4, 128)
  | .efficiency => (20, 80)
  | .depth => (300, 1500)
  | .crossSection => (200, 5000)
  | .bulkDensity => (500, 1500)
  | .emptyHeight => (0, 300)
  | .fullDwell => (600, 43200)
  | .bridgeFactor => (0, 256)
  | .saltOutFactor => (0, 256)
  | .lowDays => (1, 60)
  | .lowMass => (1000, 50000)
  | .reminderInterval => (1, 168)
  | .holdThreshold => (20, 400)
  | .holdBudget => (0, 7200)
  | .powerLimit => (1, 72)
  | .cancelDeferral => (0, 1440)
  | .filterVolumeLimit => (1, 200)
  | .filterDayLimit => (1, 60)
  | .dpLimit => (10, 300)
  | .trickle => (1, 100)
  | .activeDuration => (1, 1440)
  | .activeVolume => (1, 2000)
  | .quietDuration => (1, 1440)
  | .quietVolume => (1, 2000)
  | .awayDuration => (1, 1440)
  | .awayVolume => (1, 2000)
  | .burstRate => (50, 3000)
  | .probationRate => (20, 3000)
  | .dripGap => (5, 240)
  | .freezeThreshold => (-20, 20)
  | .dormantThreshold => (9000, 14000)
  | .dormantAction => (0, 1)

/-- The value a setting holds, as the signed number GET_PARAM returns. -/
def settingValue (p : Param) (c : Settings) : Int :=
  match p with
  | .supplyK => c.supplyK
  | .drainK => c.drainK
  | .refillRate => c.refillRate
  | .nominalDrain => c.nominalDrain
  | .hardness => c.hardness
  | .iron => c.iron
  | .ironWeight => c.ironWeight
  | .nominalCapacity => c.nominalCapacity
  | .probeFraction => c.probeFraction
  | .minReserve => c.minReserve
  | .assumedUse => c.assumedUse
  | .tripDelta => c.tripDelta
  | .efficiency => c.efficiency
  | .depth => c.depth
  | .crossSection => c.crossSection
  | .bulkDensity => c.bulkDensity
  | .emptyHeight => c.emptyHeight
  | .fullDwell => c.fullDwell
  | .bridgeFactor => c.bridgeFactor
  | .saltOutFactor => c.saltOutFactor
  | .lowDays => c.lowDays
  | .lowMass => c.lowMass
  | .reminderInterval => c.reminderInterval
  | .holdThreshold => c.holdThreshold
  | .holdBudget => c.holdBudget
  | .powerLimit => c.powerLimit
  | .cancelDeferral => c.cancelDeferral
  | .filterVolumeLimit => c.filterVolumeLimit
  | .filterDayLimit => c.filterDayLimit
  | .dpLimit => c.dpLimit
  | .trickle => c.trickle
  | .activeDuration => c.activeDuration
  | .activeVolume => c.activeVolume
  | .quietDuration => c.quietDuration
  | .quietVolume => c.quietVolume
  | .awayDuration => c.awayDuration
  | .awayVolume => c.awayVolume
  | .burstRate => c.burstRate
  | .probationRate => c.probationRate
  | .dripGap => c.dripGap
  | .freezeThreshold => c.freezeThreshold
  | .dormantThreshold => c.dormantThreshold
  | .dormantAction => match c.dormantAction with
    | .close => 0
    | .hold => 1

/-- The settings with one of them replaced. -/
def storeSetting (p : Param) (v : Int) (c : Settings) : Settings :=
  match p with
  | .supplyK => { c with supplyK := v.toNat }
  | .drainK => { c with drainK := v.toNat }
  | .refillRate => { c with refillRate := v.toNat }
  | .nominalDrain => { c with nominalDrain := v.toNat }
  | .hardness => { c with hardness := v.toNat }
  | .iron => { c with iron := v.toNat }
  | .ironWeight => { c with ironWeight := v.toNat }
  | .nominalCapacity => { c with nominalCapacity := v.toNat }
  | .probeFraction => { c with probeFraction := v.toNat }
  | .minReserve => { c with minReserve := v.toNat }
  | .assumedUse => { c with assumedUse := v.toNat }
  | .tripDelta => { c with tripDelta := v.toNat }
  | .efficiency => { c with efficiency := v.toNat }
  | .depth => { c with depth := v.toNat }
  | .crossSection => { c with crossSection := v.toNat }
  | .bulkDensity => { c with bulkDensity := v.toNat }
  | .emptyHeight => { c with emptyHeight := v.toNat }
  | .fullDwell => { c with fullDwell := v.toNat }
  | .bridgeFactor => { c with bridgeFactor := v.toNat }
  | .saltOutFactor => { c with saltOutFactor := v.toNat }
  | .lowDays => { c with lowDays := v.toNat }
  | .lowMass => { c with lowMass := v.toNat }
  | .reminderInterval => { c with reminderInterval := v.toNat }
  | .holdThreshold => { c with holdThreshold := v.toNat }
  | .holdBudget => { c with holdBudget := v.toNat }
  | .powerLimit => { c with powerLimit := v.toNat }
  | .cancelDeferral => { c with cancelDeferral := v.toNat }
  | .filterVolumeLimit => { c with filterVolumeLimit := v.toNat }
  | .filterDayLimit => { c with filterDayLimit := v.toNat }
  | .dpLimit => { c with dpLimit := v.toNat }
  | .trickle => { c with trickle := v.toNat }
  | .activeDuration => { c with activeDuration := v.toNat }
  | .activeVolume => { c with activeVolume := v.toNat }
  | .quietDuration => { c with quietDuration := v.toNat }
  | .quietVolume => { c with quietVolume := v.toNat }
  | .awayDuration => { c with awayDuration := v.toNat }
  | .awayVolume => { c with awayVolume := v.toNat }
  | .burstRate => { c with burstRate := v.toNat }
  | .probationRate => { c with probationRate := v.toNat }
  | .dripGap => { c with dripGap := v.toNat }
  | .freezeThreshold => { c with freezeThreshold := v }
  | .dormantThreshold => { c with dormantThreshold := v.toNat }
  | .dormantAction => { c with dormantAction := if v = 0 then .close else .hold }

/-- A setting is stored. -/
def storeParam (p : Param) (v : Int) (s : State) : State :=
  { s with settings := storeSetting p v s.settings }

end Sys2Proof.Machine
end

