-- ==== Sys2Proof/Machine/Flags.lean ====
section
/-! DEFINITION. What the rules form from the state whenever they read it: the quiet status, the current step, the
salt estimate and stage, the urgency grade, the blocker of a queue entry, the direction of a move, and the ATTN and
ALARM lines. -/

namespace Sys2Proof.Machine

/-! ## Time (R3, R5) -/

/-- The hour of week, 0 to 167 (R3). -/
def hourOfWeek (c : TimeOfWeek) : Nat := c.day * 24 + c.hour

/-- The quiet status of the current hour: the clock is set and the map flag of the hour is quiet (R5). -/
def quietNow (s : State) : Bool :=
  s.time.clock.clockSet && s.time.quietMap.getLsbD (hourOfWeek s.time.clock)

/-! ## The run's current step (R64, R70) -/

/-- The step record of the context's current slot. -/
def currentStep (c : RunCtx) (s : State) : Option Step := c.slot.bind (slotOf s.run.table)

/-- The phase of the context's current step. -/
def currentPhase (c : RunCtx) (s : State) : Option Phase := (currentStep c s).map (·.phase)

/-- The step position of the current step (R70). -/
def currentPosition (c : RunCtx) (s : State) : Nat :=
  match currentPhase c s with
  | some p => stepPosition c.unit p
  | none => restPosition c.unit

/-- The phases a unit's run may use (R70). -/
def phaseAllowed (u : HeadUnit) (p : Phase) : Bool :=
  match u, p with
  | .f, .brine => false
  | .f, .refill => false
  | _, _ => true

/-- A drain-using step is running: the context is RUNNING in a BACKWASH, BRINE or RINSE step (R12). -/
def drainUsing (s : State) : Option (HeadUnit × Phase) :=
  match s.run.ctx with
  | none => none
  | some c =>
    if c.state = .running then
      match currentPhase c s with
      | some .backwash => some (c.unit, .backwash)
      | some .brine => some (c.unit, .brine)
      | some .rinse => some (c.unit, .rinse)
      | _ => none
    else none

/-- A BRINE or REFILL step is running: the context is POSITIONING, RUNNING, HOLDING or SUSPENDED in one (R48). -/
def brineStepRunning (s : State) : Bool :=
  match s.run.ctx with
  | none => false
  | some c => c.state != .finishing && (currentPhase c s == some .brine || currentPhase c s == some .refill)

/-- The run context names this unit, in any state other than IDLE. -/
def runNames (u : HeadUnit) (s : State) : Bool := (s.run.ctx.map (·.unit)) == some u

/-- A unit has a re-queue hold (R85). -/
def hasHold (u : HeadUnit) (s : State) : Bool := s.run.holds.any (·.unit == u)

/-! ## Salt (R46 to R48, R58, R59) -/

/-- The mass of salt of this height, g (R47, R48). -/
def massOf (height : Nat) (c : Settings) : Nat := height * c.crossSection * c.bulkDensity / 10000

/-- The mass capacity, g (R47). -/
def massCapacity (c : Settings) : Nat := massOf c.depth c

/-- The empty mass, g (R47). -/
def emptyMass (c : Settings) : Nat := massOf c.emptyHeight c

/-- The salt estimate M_est: the level mass when present and no bridge is suspected, else the model (R46). -/
def saltEstimate (s : State) : Nat :=
  if s.brine.bridge then s.brine.model else s.brine.levelMass.getD s.brine.model

/-- The days remaining, absent while the ring sums to 0, saturating at 999 (R58). -/
def daysRemaining (s : State) : Option Nat :=
  if total s.brine.ring = 0 then none else some (min 999 (saltEstimate s * 7 / total s.brine.ring))

/-- What an evaluation of the salt stage finds (R59). -/
def stageFound (s : State) : Stage :=
  if saltEstimate s ≤ emptyMass s.settings ∨
      (s.brine.levelMass.isSome ∧ s.brine.height ≤ s.settings.emptyHeight) then .out
  else if (daysRemaining s).any (· ≤ s.settings.lowDays) ∨ saltEstimate s ≤ s.settings.lowMass then .low
  else .ok

/-- OUT is worse than LOW and LOW worse than OK (R59). -/
def stageRank : Stage → Nat
  | .ok => 0
  | .low => 1
  | .out => 2

/-! ## Urgency and class (R31, R32, R87) -/

/-- The grade of R against the reserve (R31). -/
def urgencyGrade (remaining reserve : Nat) : Urgency :=
  if remaining = 0 then .spent
  else if remaining ≤ reserve then .short
  else if remaining ≤ 2 * reserve then .due
  else .ample

/-- The metered class of a grade (R32). -/
def meteredClass : Urgency → Cls
  | .ample => .optional
  | .due => .wanted
  | .short => .required
  | .spent => .required

/-- OPTIONAL is lowest, REQUIRED highest (R87). -/
def clsRank : Cls → Nat
  | .optional => 0
  | .wanted => 1
  | .required => 2

/-- The higher of two classes. -/
def higherCls (a b : Cls) : Cls := if clsRank a < clsRank b then b else a

/-! ## The drain queue (R94) -/

/-- The close-reason set is empty (R146). -/
def CloseSet.isEmpty (c : CloseSet) : Bool := !c.leak && !c.commanded && !c.dormant

/-- The first condition of R94 an entry fails, none when it is eligible. -/
def blockerOf (e : Entry) (s : State) : Option Blocker :=
  if s.queue.grant.isSome then some .runActive
  else if s.supply.regime ≠ .mains then some .power
  else if !s.leak.closeSet.isEmpty || !isAt .shut posOpen s then some .shutoff
  else if s.leak.state ≠ .watch then some .leak
  else if isFault e.unit.valve s then some .valveFault
  else if e.deferral ≠ 0 then some .deferred
  else match s.queue.keptRate with
    | none => some .noSample
    | some rate =>
      match e.cls with
      | .optional =>
        if !quietNow s then some .notQuiet
        else if s.queue.still < 300 then some .flow
        else none
      | .wanted => if rate < s.settings.holdThreshold then none else some .demand
      | .required => none

/-! ## The valve drive (R115, R118) -/

/-- SHUT_CLOSE is highest, RUN lowest (R116). -/
def moveRank : MoveClass → Nat
  | .shutClose => 4
  | .shutOpen => 3
  | .park => 2
  | .changeover => 1
  | .run => 0

/-- The classes a regime grants (R118). -/
def regimeGrants (r : Regime) (c : MoveClass) : Bool :=
  match r, c with
  | .mains, _ => true
  | .reserve, .shutClose => true
  | .reserve, .shutOpen => true
  | .reserve, .park => true
  | .reserve, .changeover => false
  | .reserve, .run => false
  | .dormant, _ => false

/-- FORWARD and REVERSE counts of the V_SOFT disc from a reading to a target (R115). -/
def discCounts (r : Reading) (target : Nat) : Option (Nat × Nat) :=
  match r with
  | .pos d => some ((target + 10 - d) % 10, (d + 10 - target) % 10)
  | .span d => some ((target + 20 - d - 1) % 10 + 1, (d + 10 - target) % 10 + 1)
  | .invalid => none

/-- The direction of a move and the count of V_SOFT detents, from a reading that does not confirm the target (R115). -/
def moveDirection (v : Valve) (r : Reading) (target : Nat) : Dir × Nat :=
  match v with
  | .soft =>
    match discCounts r target with
    | some (fwd, rev) => if fwd ≤ rev then (.forward, fwd) else (.reverse, rev)
    | none => (.forward, 5)
  | .flt =>
    match r with
    | .pos p => if p < target then (.forward, 0) else (.reverse, 0)
    | .span d => if d < target then (.forward, 0) else (.reverse, 0)
    | .invalid => (.forward, 0)
  | .shut => if target = posClosed then (.forward, 0) else (.reverse, 0)

/-- The nominal drive time, s (R121). -/
def nominalDrive (v : Valve) (detents : Nat) : Nat :=
  match v with
  | .shut => 6
  | .flt => 8
  | .soft => 3 * detents

/-! ## The output lines (R152, R192) -/

/-- An enrolled pod reports WET and the report is not acknowledged (R152). -/
def podUnacknowledged (p : Pod) : Bool := p.reported == .wet && p.acknowledged != .wet

/-- An enrolled pod of policy SHUTOFF reports WET (R148). -/
def wetShutoffPod (s : State) : Bool := s.loop.pods.any (fun p => p.policy == .shutoff && p.reported == .wet)

/-- The ALARM line of a part that is not held in reset (R152). -/
def alarmLine (s : State) : Bool :=
  ((s.leak.state == .isolating || s.leak.state == .isolated) && !s.leak.acknowledged) ||
    s.loop.pods.any podUnacknowledged || isFault .shut s

/-- The ATTN line of a part that is not held in reset (R192). -/
def attnLine (s : State) : Bool :=
  s.supply.regime != .dormant && s.link.events.any (fun p => s.link.mask.getLsbD (eventCode p.event - 1))

end Sys2Proof.Machine
end

