-- ==== Sys2Proof/Machine/ValveOps.lean ====
section
/-! DEFINITION. The Valve Drive's operations (chapter 7): arrival of a move request (R116, R117), the arbiter (R118),
the phases of a move (R119 to R122), stall, failure and the standing targets (R123, R125). Answers and status changes
set out as signals. -/

namespace Sys2Proof.Machine

/-- A valve's status becomes this one, and a change is reported (R114). -/
def setStatus (v : Valve) (st : ValveStatus) (s : State) : State :=
  let before := (valveRec v s).status
  let s1 := setValve v { valveRec v s with status := st } s
  if before = st then s1 else push (.status v before st) s1

/-- A valve's position sense is read (R113). -/
def setSense (v : Valve) (r : Reading) (s : State) : State := setValve v { valveRec v s with sense := r } s

/-- A valve's pending request is replaced (R114). -/
def setWaiting (v : Valve) (r : Option MoveReq) (s : State) : State := setValve v { valveRec v s with waiting := r } s

/-- The driver grant is replaced (R118). -/
def setGrant (g : Option Grant) (s : State) : State := { s with valves.grant := g }

/-- A valve's pending request, when it has one, is answered and removed (R116, R117, R123). -/
def answerWaiting (v : Valve) (res : Answer) (s : State) : State :=
  match (valveRec v s).waiting with
  | some r => push (.answer v r res) (setWaiting v none s)
  | none => s

/-- The move of this valve that holds the driver. -/
def moveOf (v : Valve) (s : State) : Option Grant := s.valves.grant.filter (fun g => g.valve == v)

/-- A newer request where a move of its valve holds the driver (R117): with the same target it takes over the move;
with another it becomes pending and the move continues without a requester. A pending request that was held is answered
with set aside in both cases (log 15). -/
def meetMove (v : Valve) (r : MoveReq) (g : Grant) (s : State) : State :=
  let s1 := match g.req with
    | some old => push (.answer v old .setAside) s
    | none => s
  let s2 := answerWaiting v .setAside s1
  if g.target = r.target then setGrant (some { g with req := some r }) s2
  else setWaiting v (some r) (setGrant (some { g with req := none }) s2)

/-- A move request arrives (R116, R117). -/
def postRequest (v : Valve) (target : Nat) (cls : MoveClass) (who : Requester) (s : State) : State :=
  let r : MoveReq := ⟨target, cls, who, s.valves.stamps⟩
  let s1 := { s with valves.stamps := s.valves.stamps + 1 }
  if isFault v s1 then push (.answer v r .fault) s1
  else match moveOf v s1 with
    | some g => push .arbitrate (meetMove v r g s1)
    | none =>
      if isAt v target s1 then answerWaiting v .setAside (push (.answer v r .completion) s1)
      else push .arbitrate (setWaiting v (some r) (answerWaiting v .setAside s1))

/-! ## The move (R119 to R123) -/

/-- DRIVE begins (R121): direction and count are those of the reading at this moment, in a first attempt and in a retry;
the direction decided at the grant decided the SETTLE alone (R115, R119, log 24). -/
def startDrive (g : Grant) (s : State) : State :=
  let rec0 := valveRec g.valve s
  if rec0.sense = .pos g.target then
    setStatus g.valve .moving (setGrant (some { g with phase := .hold }) s)
  else
    let way := moveDirection g.valve rec0.sense g.target
    let g1 := { g with phase := .drive, dir := some way.1, nominal := nominalDrive g.valve way.2 }
    let s1 := setGrant (some g1) s
    setStatus g.valve .moving (setValve g.valve { valveRec g.valve s1 with lastDir := some way.1 } s1)

/-- A pending request for another valve has a higher class than the move's (R120). -/
def outranked (g : Grant) (s : State) : Bool :=
  [Valve.shut, Valve.flt, Valve.soft].any (fun w =>
    w != g.valve && (valveRec w s).waiting.any (fun r => moveRank g.cls < moveRank r.cls))

/-- RECHECK (R120): a superseded move is removed; an outranked one, or one the regime does not grant, returns to
pending with its own stamp; any other enters DRIVE. -/
def recheckMove (g : Grant) (s : State) : State :=
  match g.req with
  | none => push .arbitrate (setGrant none s)
  | some r =>
    if outranked g s || !regimeGrants s.supply.regime g.cls then
      push .arbitrate (setWaiting g.valve (some r) (setGrant none s))
    else startDrive g s

/-- A request takes the driver grant and enters SETTLE or passes RECHECK (R118, R119). -/
def takeGrant (v : Valve) (r : MoveReq) (s : State) : State :=
  let rec0 := valveRec v s
  let dir := if rec0.sense = .pos r.target then none else some (moveDirection v rec0.sense r.target).1
  let reversing := match dir, rec0.lastDir with
    | some d, some l => d != l
    | _, _ => false
  let g : Grant :=
    { valve := v, target := r.target, cls := r.cls, req := some r
      phase := if reversing then .settle else .recheck, retry := false, dir := dir, nominal := 0 }
  let s1 := setGrant (some g) (setWaiting v none s)
  if reversing then s1 else recheckMove g s1

/-- The pending requests whose class the regime grants (R118). -/
def grantable (s : State) : List (Valve × MoveReq) :=
  [Valve.shut, Valve.flt, Valve.soft].filterMap (fun v =>
    ((valveRec v s).waiting.filter (fun r => regimeGrants s.supply.regime r.cls)).map (fun r => (v, r)))

/-- Higher class first, and within a class the earlier arrival (R118). -/
def goesBefore (x y : Valve × MoveReq) : Bool :=
  moveRank y.2.cls < moveRank x.2.cls || (moveRank x.2.cls == moveRank y.2.cls && x.2.stamp < y.2.stamp)

/-- The request the arbiter takes (R118). -/
def chosenRequest (s : State) : Option (Valve × MoveReq) :=
  (grantable s).foldl (fun acc x => match acc with
    | none => some x
    | some y => if goesBefore x y then some x else some y) none

/-- The arbiter's re-evaluation (R118): a request whose valve is AT its target is answered and the arbiter looks again,
at most once for each valve. -/
def arbitrateFrom : Nat → State → State
  | 0, s => s
  | n + 1, s =>
    if s.valves.grant.isSome then s
    else match chosenRequest s with
      | none => s
      | some (v, r) =>
        if isAt v r.target s then arbitrateFrom n (answerWaiting v .completion s)
        else takeGrant v r s

/-- The arbiter's re-evaluation, with the three valves there are. -/
def arbitrate (s : State) : State := arbitrateFrom 4 s

/-- The position is confirmed in DRIVE or EXTEND and the move passes to HOLD (R121, R122). -/
def confirmMove (g : Grant) (s : State) : State :=
  setGrant (some { g with phase := .hold }) (setSense g.valve (.pos g.target) s)

/-- HOLD ends (R122): AT(target), the report, the completion, the driver free. -/
def completeMove (g : Grant) (s : State) : State :=
  let s1 := setStatus g.valve (.atPos g.target) (setGrant none s)
  let s2 := match g.req with
    | some r => push (.answer g.valve r .completion) s1
    | none => s1
  push .arbitrate s2

/-- The retry stalls and the move has failed (R123). -/
def failMove (g : Grant) (s : State) : State :=
  let reading := (valveRec g.valve s).sense
  let s1 := setStatus g.valve .fault (setGrant none s)
  let s2 := match g.req with
    | some r => push (.answer g.valve r .fault) s1
    | none => s1
  let s3 := answerWaiting g.valve .fault s2
  push .arbitrate (raiseEvent (.valveFault g.valve g.target g.cls reading) s3)

/-- EXTEND reaches 10 s unconfirmed (R123): the first stall makes the retry's SETTLE, the second fails the move. -/
def stallMove (g : Grant) (s : State) : State :=
  if g.retry then failMove g s else setGrant (some { g with phase := .settle, retry := true }) s

/-! ## Standing targets (R125) -/

/-- The position the run requires of its valve at a re-issue: step, hold, park or finishing position (R125). -/
def runTarget (c : RunCtx) (s : State) : Nat × AwaitKind :=
  match c.state with
  | .finishing => (restPosition c.unit, .finish)
  | .holding => (restPosition c.unit, .hold)
  | _ => if c.parked then (restPosition c.unit, .park) else (currentPosition c s, .step)

/-- The Run Controller's context, when it is the run of this valve that is in progress. -/
def runOf (v : Valve) (s : State) : Option RunCtx := s.run.ctx.filter (fun c => c.unit.valve == v)

/-- A valve's standing target is re-issued as a PARK request in its owner's name; the Run Controller's stands as its
awaited move (R125). -/
def reissue (v : Valve) (s : State) : State :=
  match runOf v s with
  | some c =>
    let t := runTarget c s
    postRequest v t.1 .park .runController
      { s with run.ctx := some { c with awaited := some ⟨v, t.1, t.2⟩ } }
  | none =>
    match v with
    | .shut => postRequest .shut (if s.leak.closeSet.isEmpty then posOpen else posClosed) .park .shutoffControl s
    | .flt => postRequest .flt posService .park .filterMonitor s
    | .soft => postRequest .soft (servicePos (servingTank s)) .park .bedAccounting s

end Sys2Proof.Machine
end

