-- ==== Sys2Proof/Machine/LeakOps.lean ====
section
/-! DEFINITION. The operations of the Leak Monitor and its shutoff control (chapter 8): the close-reason set (R146), the
trip (R143) and the isolation (R144), episodes (R131 to R133), fixtures (R137), warnings and limits (R138), the burst
(R140), probation (R149), the passing valve (R150) and the drip timer (R151). -/

namespace Sys2Proof.Machine

/-- The leak state changes and is reported to the Drain Queue (R142). -/
def setLeakState (st : LeakState) (s : State) : State :=
  if s.leak.state = st then s else push .regrant { s with leak.state := st }

/-- The close-reason set changes: a write trigger, a report to the Drain Queue, and the request that keeps the law of
V_SHUT (R146). -/
def changeReasons (c : CloseSet) (s : State) : State :=
  let before := s.leak.closeSet
  if before = c then s
  else
    let s1 := push .regrant (writeTrigger { s with leak.closeSet := c })
    if before.isEmpty && !c.isEmpty then postRequest .shut posClosed .shutClose .shutoffControl s1
    else if !before.isEmpty && c.isEmpty then postRequest .shut posOpen .shutOpen .shutoffControl s1
    else s1

/-! ## Trip and isolation (R143, R144) -/

/-- The isolation is confirmed: ISOLATING with V_SHUT AT(CLOSED) (R144). -/
def isolateDue (s : State) : Bool := s.leak.state == .isolating && isAt .shut posClosed s

/-- LEAK_ISOLATED with its detail (R144). -/
def isolatedEvent (s : State) : Event :=
  match s.leak.record with
  | some r => .leakIsolated r.cause r.volume r.pod (s.time.counter - r.counter)
  | none => .leakIsolated .duration 0 none 0

/-- The state becomes ISOLATED and LEAK_ISOLATED is raised (R144). -/
def isolate (s : State) : State := setLeakState .isolated (raiseEvent (isolatedEvent s) s)

/-- The leak record of a trip (R143). -/
def tripRecord (cause : LeakCause) (pod : Option Nat) (s : State) : LeakRec :=
  { cause := cause, counter := s.time.counter, time := s.time.clock
    volume := (s.leak.episode.map (·.volume)).getD 0, pod := pod }

/-- A trip of any cause, one action (R143). -/
def trip (cause : LeakCause) (pod : Option Nat) (s : State) : State :=
  let s1 := { s with
    leak.record := some (tripRecord cause pod s), leak.acknowledged := false, leak.episode := none
    leak.burst := none, leak.probation := 0, leak.high := 0 }
  let s2 := setLeakState .isolating (changeReasons { s1.leak.closeSet with leak := true } s1)
  if isolateDue s2 then isolate s2 else s2

/-- A pod of policy SHUTOFF has come to report WET (R141). -/
def podWetReport (address : Nat) (s : State) : State :=
  match s.leak.state with
  | .watch | .suspect | .probation => trip .pod (some address) s
  | .isolating | .isolated => s

/-! ## Limits (R133, R137) -/

/-- The limit class of an episode that has no fixture (R133). -/
def chosenClass (s : State) : LimitClass :=
  if s.leak.away then .away else if quietNow s then .quiet else .active

/-- The duration and volume limits of a class; an episode of class FIXTURE has its own (R130). -/
def classLimits (c : LimitClass) (st : Settings) : Nat × Nat :=
  match c with
  | .active => (st.activeDuration, st.activeVolume)
  | .quiet => (st.quietDuration, st.quietVolume)
  | .away => (st.awayDuration, st.awayVolume)
  | .fixture => (0, 0)

/-- A limit, doubled once the episode is extended (R133, R139). -/
def extendedLimit (extended : Bool) (n : Nat) : Nat := if extended then 2 * n else n

/-- The episode takes a class and its limits (R133). -/
def withLimits (cls : LimitClass) (limits : Nat × Nat) (e : Episode) : Episode :=
  { e with
    cls := cls, durationLimit := extendedLimit e.extended limits.1, volumeLimit := extendedLimit e.extended limits.2 }

/-- The class of an open episode that is not FIXTURE is chosen again, and its limits copied again (R133). -/
def rechooseClass (s : State) : State :=
  match s.leak.episode with
  | none => s
  | some e =>
    if e.cls = .fixture then s
    else { s with leak.episode := some (withLimits (chosenClass s) (classLimits (chosenClass s) s.settings) e) }

/-- The fixture's hours hold the current hour; on an unset clock they must hold all 24 (R137). -/
def hoursMatch (f : Fixture) (c : TimeOfWeek) : Bool :=
  if c.clockSet then f.hours.getLsbD c.hour else f.hours == BitVec.allOnes 24

/-- A fixture matches an average rate (R137). -/
def fixtureMatches (f : Fixture) (average : Nat) (s : State) : Bool :=
  f.rateLow ≤ average && average ≤ f.rateHigh && hoursMatch f s.time.clock && (!s.leak.away || f.awayAllowed)

/-- The first fixture that matches, in ascending id, with its id (R137). -/
def matchingFixture (average : Nat) (s : State) : Option (Nat × Fixture) :=
  (List.range 16).findSome? (fun k =>
    ((slotOf s.leak.fixtures (k + 1)).filter (fun f => fixtureMatches f average s)).map (fun f => (k + 1, f)))

/-- The episode at the fixture matching (R137). -/
def matchEpisode (e : Episode) (s : State) : Episode :=
  let e1 : Episode := { e with average := some (e.volume / 50) }
  match matchingFixture (e.volume / 50) s with
  | some (id, f) => { withLimits .fixture (f.maxMinutes, f.maxLitres) e1 with fixture := some id }
  | none => e1

/-- The episode stands at age 30 and has not been matched (R137). -/
def matchDue (s : State) : Option Episode := s.leak.episode.filter (fun e => e.age == 30 && e.average == none)

/-- The fixture matching (R137). -/
def fixtureMatch (e : Episode) (s : State) : State := { s with leak.episode := some (matchEpisode e s) }

/-! ## Episodes (R131, R132) -/

/-- The episode of a starting sample (R131). -/
def newEpisode (x : Sample) (s : State) : Episode :=
  withLimits (chosenClass s) (classLimits (chosenClass s) s.settings)
    { startCounter := s.time.counter, startTime := s.time.clock, age := 1, volume := x.household, peak := x.rate
      average := none, fixture := none, cls := .active, durationLimit := 0, volumeLimit := 0
      prewarned := false, extended := false, still := 0 }

/-- The episode has had 30 still samples (R132). -/
def episodeDue (s : State) : Bool := s.leak.episode.any (fun e => 30 ≤ e.still)

/-- The episode ends (R132, R140). -/
def endEpisode (s : State) : State :=
  let s1 := { s with leak.episode := none, leak.burst := none }
  if s1.leak.state = .suspect then setLeakState .watch s1 else s1

/-- An episode may begin in this leak state (R131). -/
def episodesBegin : LeakState → Bool
  | .watch => true
  | .suspect => true
  | .probation => true
  | .isolating => false
  | .isolated => false

/-- Steps 1 to 4 of R132 on an open episode. -/
def countEpisode (e : Episode) (x : Sample) (s : State) : State :=
  let e1 : Episode := { e with still := if x.household < s.settings.trickle then satAdd 30 e.still 1 else 0 }
  let s1 := { s with leak.episode := some e1 }
  if episodeDue s1 then endEpisode s1
  else
    let s2 := { s1 with leak.episode := some { e1 with
      age := satAdd Config.max32 e1.age 1
      volume := satAdd Config.max32 e1.volume x.household
      peak := max e1.peak x.rate } }
    match matchDue s2 with
    | some e2 => fixtureMatch e2 s2
    | none => s2

/-- The episode record's part of a sample: a start (R131) or steps 1 to 4 of R132. -/
def episodeSample (x : Sample) (s : State) : State :=
  match s.leak.episode with
  | some e => countEpisode e x s
  | none =>
    if s.settings.trickle ≤ x.household ∧ episodesBegin s.leak.state then
      { s with leak.episode := some (newEpisode x s) }
    else s

/-! ## Limit tests (R138) -/

/-- The cause of a limit trip of this episode, VOLUME when both limits are reached (R138). -/
def limitCause (e : Episode) : Option LeakCause :=
  if e.volumeLimit * 1000 ≤ e.volume then some .volume
  else if e.durationLimit * 60 ≤ e.age then some .duration
  else none

/-- The open episode has reached a limit (R138). -/
def limitDue (s : State) : Option LeakCause := s.leak.episode.bind limitCause

/-- The limit of a warning, at 80 %, VOLUME when both are reached (R138). -/
def warningLimit (e : Episode) : Option LimitReached :=
  if e.volumeLimit * 800 ≤ e.volume then some .volume
  else if e.durationLimit * 48 ≤ e.age then some .duration
  else none

/-- LEAK_WARNING is raised and the episode is prewarned; WATCH becomes SUSPECT (R138). -/
def warn (l : LimitReached) (e : Episode) (s : State) : State :=
  let s1 := raiseEvent (.leakWarning l e.cls e.fixture e.age e.volume)
    { s with leak.episode := some { e with prewarned := true } }
  if s1.leak.state = .watch then setLeakState .suspect s1 else s1

/-- The limit tests of a sample (R138). -/
def limitTests (s : State) : State :=
  match s.leak.episode with
  | none => s
  | some e =>
    match limitCause e with
    | some cause => trip cause none s
    | none =>
      if e.prewarned then s
      else match warningLimit e with
        | some l => warn l e s
        | none => s

/-! ## Burst (R140) -/

/-- The open episode is prewarned. -/
def episodePrewarned (s : State) : Bool := s.leak.episode.any (·.prewarned)

/-- The burst confirmation has counted down to 0 (R140). -/
def burstDue (s : State) : Bool := s.leak.burst == some 0

/-- SUSPECT with a prewarned episode, WATCH otherwise (R140, R149). -/
def judgedState (s : State) : LeakState := if episodePrewarned s then .suspect else .watch

/-- The burst test of a sample taken in WATCH or SUSPECT (R140). -/
def burstTest (x : Sample) (s : State) : State :=
  match s.leak.burst with
  | none =>
    if s.settings.burstRate ≤ x.rate then setLeakState .suspect { s with leak.burst := some 20 } else s
  | some n =>
    if s.settings.burstRate ≤ x.rate then
      let s1 := { s with leak.burst := some (n - 1) }
      if burstDue s1 then trip .burst none s1 else s1
    else setLeakState (judgedState s) { s with leak.burst := none }

/-- The burst's part of a sample (R140). -/
def burstSample (x : Sample) (s : State) : State :=
  match s.leak.state with
  | .watch | .suspect => burstTest x s
  | .isolating | .isolated | .probation => s

/-! ## Probation (R149) -/

/-- The high count has reached 5 in PROBATION (R149). -/
def probationTripDue (s : State) : Bool := s.leak.state == .probation && 5 ≤ s.leak.high

/-- The probation count has reached 60 and no trip stands (R149). -/
def probationEndDue (s : State) : Bool := s.leak.state == .probation && s.leak.high < 5 && 60 ≤ s.leak.probation

/-- Probation ends (R149). -/
def endProbation (s : State) : State :=
  setLeakState (judgedState s) { s with leak.probation := 0, leak.high := 0 }

/-- The probation's part of a sample (R149). -/
def probationSample (x : Sample) (s : State) : State :=
  if s.leak.state ≠ .probation then s
  else if isAt .shut posOpen s then
    let s1 := { s with
      leak.probation := satAdd 60 s.leak.probation 1
      leak.high := if s.settings.probationRate ≤ x.rate then satAdd 5 s.leak.high 1 else 0 }
    if probationTripDue s1 then trip .probation none s1
    else if probationEndDue s1 then endProbation s1
    else s1
  else { s with leak.high := 0 }

/-! ## Passing valve and drip (R150, R151) -/

/-- The passing count has reached 30 in a closure not yet reported (R150). -/
def passingDue (s : State) : Bool := 30 ≤ s.leak.passing && !s.leak.passingFlag && isAt .shut posClosed s

/-- SHUTOFF_PASSING is raised, once per closure (R150). -/
def raisePassing (s : State) : State :=
  raiseEvent (.shutoffPassing s.leak.passingVolume s.leak.closeSet) { s with leak.passingFlag := true }

/-- A sample raises the passing count or sets it to 0 (R150). -/
def countPassing (supply : Nat) (s : State) : State :=
  if supply < s.settings.trickle then { s with leak.passing := 0, leak.passingVolume := 0 }
  else if s.leak.passing < 30 then
    { s with
      leak.passing := s.leak.passing + 1
      leak.passingVolume := satAdd 150000 s.leak.passingVolume supply }
  else s

/-- The passing valve's part of a sample (R150). -/
def passingSample (x : Sample) (s : State) : State :=
  if isAt .shut posClosed s then
    let s1 := countPassing x.supply s
    if passingDue s1 then raisePassing s1 else s1
  else s

/-- The quiet run of a whole drip gap, in samples (R151). -/
def dripGapSamples (c : Settings) : Nat := c.dripGap * 60

/-- The drip timer has reached a day (R151). -/
def dripDue (s : State) : Bool := Config.dripSeconds ≤ s.leak.drip

/-- DRIP_SUSPECT is raised and the drip timer starts again (R151). -/
def raiseDrip (s : State) : State :=
  raiseEvent (.dripSuspect s.leak.longestRun) { s with leak.drip := 0, leak.longestRun := 0 }

/-- The drip timer's part of a sample (R151). -/
def dripSample (x : Sample) (s : State) : State :=
  let run := if x.household < s.settings.trickle then satAdd (dripGapSamples s.settings) s.leak.quietRun 1 else 0
  let s1 := { s with leak.quietRun := run }
  if run = dripGapSamples s.settings then { s1 with leak.drip := 0, leak.longestRun := 0 }
  else
    let s2 := { s1 with
      leak.drip := satAdd Config.dripSeconds s1.leak.drip 1
      leak.longestRun := max s1.leak.longestRun run }
    if dripDue s2 then raiseDrip s2 else s2

/-- The drip gap is stored: the runs are clamped into their ranges (R151). -/
def dripGapChanged (s : State) : State :=
  { s with
    leak.quietRun := min s.leak.quietRun (dripGapSamples s.settings)
    leak.longestRun := min s.leak.longestRun (dripGapSamples s.settings - 1) }

/-! ## The flow sample and the reports -/

/-- The episode's part of a sample, the burst test, and the limit tests of a sample that did not start an episode
(R131, R132, R140, R138). -/
def judgeFlow (x : Sample) (s : State) : State :=
  let s1 := burstSample x (episodeSample x s)
  if s.leak.episode.isSome then limitTests s1 else s1

/-- The Leak Monitor's part of a flow sample (log 18). -/
def leakSample (x : Sample) (s : State) : State :=
  dripSample x (passingSample x (probationSample x (judgeFlow x s)))

/-- V_SHUT has changed its status (R144, R150). -/
def leakShutReport (before after : ValveStatus) (s : State) : State :=
  if after = .atPos posClosed then
    let s1 := { s with leak.passing := 0, leak.passingFlag := false, leak.passingVolume := 0 }
    if isolateDue s1 then isolate s1 else s1
  else if before = .atPos posClosed then { s with leak.passing := 0, leak.passingVolume := 0 }
  else s

/-- The Leak Monitor's part of a restart, after its part of the image is restored (R153). -/
def leakRestart (s : State) : State :=
  { s with
    leak.state := if s.leak.closeSet.leak then .isolated else .watch
    leak.episode := none, leak.burst := none, leak.probation := 0, leak.high := 0
    leak.passing := 0, leak.passingFlag := false, leak.passingVolume := 0
    leak.drip := 0, leak.quietRun := 0, leak.longestRun := 0 }

end Sys2Proof.Machine
end

