-- ==== Sys2Proof/Machine/QueueOps.lean ====
section
/-! DEFINITION. The Drain Queue's operations (chapter 5): the dispatch order (R91), requests and merges (R88 to R90),
removal, and the seconds the queue counts (R92). The dispatch itself, which fills the run context, is in RunOps.lean. -/

namespace Sys2Proof.Machine

/-- Who sends a request to the Drain Queue (R88). -/
inductive Asker where
  | bed | filter | host | run | queue
  deriving DecidableEq, Repr

/-- A higher class stands first, then the greater age, then the earlier join (R91). -/
def standsBefore (x y : Entry) : Bool :=
  clsRank y.cls < clsRank x.cls ||
    (clsRank x.cls == clsRank y.cls && (y.age < x.age || (x.age == y.age && x.joined < y.joined)))

/-- An entry takes its place in the order (R91). -/
def placeEntry (e : Entry) : List Entry → List Entry
  | [] => [e]
  | x :: xs => if standsBefore e x then e :: x :: xs else x :: placeEntry e xs

/-- The dispatch order, fixed afresh (R91). -/
def dispatchOrder (l : List Entry) : List Entry := l.foldr placeEntry []

/-- The entry of a unit. -/
def entryOf (u : HeadUnit) (s : State) : Option Entry := s.queue.entries.find? (fun e => e.unit == u)

/-- The entries become these, in the dispatch order: a change of the queue, with a write trigger (R91, R176) and a
re-evaluation of the grant (R95). -/
def changeQueue (l : List Entry) (s : State) : State :=
  push .regrant (writeTrigger { s with queue.entries := dispatchOrder l })

/-- The entries without those of a unit. -/
def withoutUnit (u : HeadUnit) (l : List Entry) : List Entry := l.filter (fun e => e.unit != u)

/-- A count of seconds as an optional field that is absent at 0 (R92). -/
def present (n : Nat) : Option Nat := if n = 0 then none else some n

/-- A new entry joins the list (R88). -/
def joinQueue (u : HeadUnit) (cls : Cls) (reason : Reason) (deferral : Nat) (s : State) : State :=
  let e : Entry :=
    { unit := u, cls := cls, reason := reason, age := 0, entered := s.time.clock
      deferral := max deferral ((unitDeferral u s).getD 0), joined := s.queue.joins }
  let s1 := { s with queue.joins := s.queue.joins + 1 }
  changeQueue (withoutUnit u s.queue.entries ++ [e]) s1

/-- A request merges into the unit's entry (R89). -/
def mergeEntry (e : Entry) (who : Asker) (cls : Cls) (s : State) : State :=
  let e1 : Entry :=
    { e with cls := higherCls e.cls cls, deferral := if who = .host then 0 else e.deferral }
  let l := s.queue.entries.map (fun x => if x.unit == e.unit then e1 else x)
  if e1.cls = e.cls then { s with queue.entries := l } else changeQueue l s

/-- A request for a unit under a re-queue hold raises the hold's class (R90). -/
def raiseHold (u : HeadUnit) (cls : Cls) (s : State) : State :=
  { s with run.holds := s.run.holds.map (fun h => if h.unit == u then { h with cls := higherCls h.cls cls } else h) }

/-- The unit is a tank whose role is not WAITING (R90). -/
def tankNotWaiting (u : HeadUnit) (s : State) : Bool :=
  match u.tank with
  | some t => (tankRec t s).role != .waiting
  | none => false

/-- A request to the Drain Queue (R88, R89, R90). -/
def queueRequest (who : Asker) (u : HeadUnit) (cls : Cls) (reason : Reason) (deferral : Nat) (s : State) : State :=
  let s1 := if who = .host then setDeferral u none s else s
  if runNames u s1 then s1
  else if hasHold u s1 && (who == .bed || who == .filter) then raiseHold u cls s1
  else if tankNotWaiting u s1 && (who == .bed || who == .filter || who == .run) then s1
  else match entryOf u s1 with
    | some e => mergeEntry e who cls s1
    | none => joinQueue u cls reason deferral s1

/-- A unit's entry is removed: a change of the queue (R91, R99). -/
def removeEntry (u : HeadUnit) (s : State) : State := changeQueue (withoutUnit u s.queue.entries) s

/-! ## Seconds (R92) -/

/-- An OPTIONAL entry has reached the age at which it becomes WANTED (R92). -/
def agedEntry (e : Entry) : Bool := e.cls == .optional && Config.agingSeconds ≤ e.age

/-- Every OPTIONAL entry that has reached 48 h becomes WANTED (R92). -/
def ageClasses (s : State) : State :=
  if s.queue.entries.any agedEntry then
    changeQueue (s.queue.entries.map (fun e => if agedEntry e then { e with cls := .wanted } else e)) s
  else s

/-- One second on an optional count, absent at 0 (R92). -/
def countDown (d : Option Nat) : Option Nat := d.bind (fun n => present (n - 1))

/-- One second on an entry: the age counts up, the deferral down (R92). -/
def entrySecond (e : Entry) : Entry :=
  { e with age := satAdd Config.max32 e.age 1, deferral := e.deferral - 1 }

/-- One second of the Drain Queue (R92). -/
def queueSecond (s : State) : State :=
  ageClasses
    { s with
      queue.entries := s.queue.entries.map entrySecond
      queue.deferA := countDown s.queue.deferA
      queue.deferB := countDown s.queue.deferB
      queue.deferF := countDown s.queue.deferF }

/-! ## Flow samples (R93) -/

/-- The Drain Queue's part of a flow sample: the kept rate and the still count; the re-evaluation follows (R93). -/
def queueSample (x : Sample) (s : State) : State :=
  push .regrant
    { s with
      queue.keptRate := some x.rate
      queue.still := if x.household = 0 then satAdd 300 s.queue.still 1 else 0 }

end Sys2Proof.Machine
end

