-- ==== Sys2Proof/Machine/BedOps.lean ====
section
/-! DEFINITION. Bed Accounting's operations (chapter 2): the load charge (R27, R28), the reserve and the urgency (R30,
R31), changeover and hard water (R33 to R36), the probes (R37 to R39), the credit and the end of a run (R42 to R44). -/

namespace Sys2Proof.Machine

/-! ## Hard water and the changeover (R33, R36) -/

/-- The record of the tank in service. -/
def servingRec (s : State) : TankRec := tankRec (servingTank s) s

/-- The record of the tank that is not in service. -/
def otherRec (s : State) : TankRec := tankRec (servingTank s).other s

/-- The HARD_WATER condition begins, when it is not in force (R36). -/
def beginHardWater (byFault : Bool) (s : State) : State :=
  if s.bed.hardWater then s
  else raiseEvent (.hardWater (servingTank s) (otherRec s).role byFault) { s with bed.hardWater := true }

/-- A changeover to the other tank is requested (R33). -/
def requestChangeover (asked : Option Cls) (s : State) : State :=
  postRequest .soft (servicePos (servingTank s).other) .changeover .bedAccounting
    { s with bed.changePending := true, bed.changeClass := asked }

/-- The serving tank is SPENT, the other tank STANDBY and no changeover pending (R33). -/
def changeoverWanted (s : State) : Bool :=
  (servingRec s).urgency == .spent && (otherRec s).role == .standby && !s.bed.changePending

/-- The changeover test (R33), with the third case of R36 where V_SOFT is in FAULT, whose HARD_WATER carries changeover
fault no (log 50). -/
def changeoverTest (s : State) : State :=
  if changeoverWanted s then
    if isFault .soft s then beginHardWater false s else requestChangeover none s
  else s

/-- The hard-water test (R36, first case). -/
def hardWaterTest (s : State) : State :=
  if (servingRec s).urgency = .spent ∧ (otherRec s).role ≠ .standby then beginHardWater false s else s

/-- A REQUEST_REGEN for the serving tank is passed on (R33). -/
def askChangeover (asked : Cls) (s : State) : State :=
  if s.bed.changePending then
    { s with bed.changeClass := some (match s.bed.changeClass with
        | some held => higherCls held asked
        | none => asked) }
  else requestChangeover (some asked) s

/-! ## Urgency and reserve (R30, R31) -/

/-- The waiting tank's entry takes the new metered class (R32). -/
def placeMetered (s : State) : State :=
  let t := (servingTank s).other
  if (tankRec t s).role = .waiting ∧ (entryOf t.unit s).isSome then
    queueRequest .bed t.unit (meteredClass (servingRec s).urgency) .metered 0 s
  else s

/-- What follows a change of grade, in the order of R31. -/
def urgencyChanged (s : State) : State := hardWaterTest (changeoverTest (placeMetered s))

/-- The serving tank's urgency is evaluated (R31). -/
def evaluateUrgency (s : State) : State :=
  let t := servingTank s
  let rec0 := tankRec t s
  let grade := urgencyGrade rec0.remaining s.bed.reserve
  let s1 := setTank t { rec0 with urgency := grade } s
  if rec0.urgency = grade then s1 else urgencyChanged s1

/-- The average daily use, L (R30). -/
def averageUse (s : State) : Nat :=
  if s.meter.days.length = 0 then s.settings.assumedUse else total s.meter.days / s.meter.days.length

/-- The reserve as R30 computes it. -/
def reserveOf (s : State) : Nat :=
  let credit := (servingRec s).credit
  let floor := credit * s.settings.minReserve / 100
  let need := averageUse s * s.bed.compensated * s.bed.factor / 25600
  min credit (max floor need)

/-- The reserve is recomputed, and the urgency evaluated (R30). -/
def recomputeReserve (s : State) : State := evaluateUrgency { s with bed.reserve := reserveOf s }

/-! ## The load charge (R27, R28) -/

/-- The sum a sample's charge is taken from (R27). -/
def loadSum (household : Nat) (s : State) : Nat :=
  household * s.bed.compensated * s.bed.factor + (servingRec s).residue

/-- The household figure is charged to the serving tank (R27, R28). -/
def chargeLoad (household : Nat) (s : State) : State :=
  let t := servingTank s
  let n := loadSum household s
  let left := (tankRec t s).remaining - n / Config.loadDivisor
  let s1 := setTank t { tankRec t s with remaining := left, residue := n % Config.loadDivisor } s
  if left = 0 then { s1 with bed.hardVolume := satAdd Config.max32 s1.bed.hardVolume household } else s1

/-- Bed Accounting's part of a flow sample: the charge, the urgency (R31) and the changeover test (R33). -/
def bedSample (x : Sample) (s : State) : State := changeoverTest (evaluateUrgency (chargeLoad x.household s))

/-! ## Settings (R24, R25, R29) -/

/-- The compensated hardness of the settings (R25). -/
def compensatedOf (c : Settings) : Nat := c.hardness + c.iron * c.ironWeight / 100

/-- H, Fe or k_Fe is stored with a new value (R24). -/
def hardnessChanged (s : State) : State :=
  recomputeReserve { s with bed.compensated := compensatedOf s.settings, bed.factor := 256 }

/-- A tank's credit and R are clamped to the nominal capacity (R29). -/
def clampTank (t : Tank) (s : State) : State :=
  let r := tankRec t s
  let credit := min r.credit s.settings.nominalCapacity
  setTank t { r with credit := credit, remaining := min r.remaining credit } s

/-- The nominal capacity is stored with a new value (R29). The clamp and the recomputation are followed by one
evaluation of the urgency, against the new reserve (R31, log 37). -/
def nominalChanged (s : State) : State := recomputeReserve (clampTank .b (clampTank .a s))

/-! ## Changeover completion and fault (R34, R35) -/

/-- The roles pass (R34, steps 1 to 3). -/
def passRoles (s : State) : State :=
  let x := servingTank s
  let leaving := tankRec x s
  let entering := tankRec x.other s
  let s1 := setTank x { leaving with role := .waiting, probeArmed := false, deviation := 0 } s
  let s2 := setTank x.other
    { entering with
      role := .inService
      probeArmed := entering.probeArmed || (entering.probeEnabled && 0 < entering.credit) } s1
  { s2 with bed.hardWater := false }

/-- The class and reason under which the tank leaving service is queued (R34, step 5). -/
def leavingRequest (s : State) : Cls × Reason :=
  let metered := meteredClass (servingRec s).urgency
  match s.bed.changeClass with
  | some asked => (higherCls metered asked, .commanded)
  | none => (metered, .metered)

/-- The changeover record returns to not pending (R34, R35). -/
def dropChangeover (s : State) : State := { s with bed.changePending := false, bed.changeClass := none }

/-- The changeover completes (R34). -/
def completeChangeover (s : State) : State :=
  let x := servingTank s
  let y := x.other
  let s1 := recomputeReserve (passRoles s)
  let s2 := if (tankRec y s1).remaining = 0 then beginHardWater false s1 else s1
  let s3 := queueRequest .bed x.unit (leavingRequest s2).1 (leavingRequest s2).2 0 s2
  let r := tankRec y s3
  let s4 := setTank y { r with rinseIncomplete := false }
    (raiseEvent (.changeover x y r.remaining r.rinseIncomplete) s3)
  writeTrigger (dropChangeover s4)

/-- The completion of a changeover can be taken: it is pending, its target STANDBY (R33, log 27). -/
def changeoverOpen (s : State) : Bool := s.bed.changePending && (otherRec s).role == .standby

/-- The Valve Drive's answer to a changeover request (R34, R35); Bed Accounting's other requests are standing targets
and their answers ask nothing of it. -/
def bedAnswer (req : MoveReq) (res : Answer) (s : State) : State :=
  if req.cls ≠ .changeover then s
  else match res with
    | .completion =>
      if changeoverOpen s ∧ req.target = servicePos (servingTank s).other then completeChangeover s else s
    | .fault =>
      let s1 := dropChangeover s
      if (servingRec s1).urgency = .spent then beginHardWater true s1 else s1
    | .setAside => dropChangeover s

/-! ## The bed probes (R37 to R39) -/

/-- A trip with too little estimated use is a probe fault (R38). -/
def isProbeFault (r : TankRec) : Bool := r.credit - r.remaining < r.credit / 8 || r.credit - r.remaining == 0

/-- The capacity the bed holds when the front reaches the probe (R38). -/
def probeRemaining (r : TankRec) (c : Settings) : Nat := r.credit * c.probeFraction / 100

/-- The observed factor, clamped (R39). -/
def observedFactor (r : TankRec) (s : State) : Nat :=
  clampNat 128 512 (s.bed.factor * (r.credit - probeRemaining r s.settings) / (r.credit - r.remaining))

/-- The probe fault (R38). -/
def probeFault (t : Tank) (s : State) : State :=
  let r := tankRec t s
  writeTrigger (raiseEvent (.probeFault t r.credit r.remaining)
    (setTank t { r with probeEnabled := false, probeArmed := false } s))

/-- The correction of C and R (R39). -/
def probeCorrection (t : Tank) (s : State) : State :=
  let r := tankRec t s
  let c1 := (3 * s.bed.factor + observedFactor r s) / 4
  let r1 := probeRemaining r s.settings
  let s1 := setTank t { r with remaining := r1, probeArmed := false } { s with bed.factor := c1 }
  let s2 := raiseEvent (.probeCorrection t s.bed.factor c1 r.remaining r1) s1
  let s3 := recomputeReserve s2
  writeTrigger (if 0 < r1 then { s3 with bed.hardWater := false } else s3)

/-- The probe trips, and its deviation count is 0 (R37, R38, R39). -/
def probeTrip (t : Tank) (s : State) : State :=
  let s1 := setTank t { tankRec t s with deviation := 0 } s
  if isProbeFault (tankRec t s1) then probeFault t s1 else probeCorrection t s1

/-- A tank's deviation count has reached 3 (R37). -/
def probeDue (t : Tank) (s : State) : Bool := 3 ≤ (tankRec t s).deviation && (tankRec t s).role == .inService

/-- The probe of the tank is evaluated at a reading (R37). -/
def probeEvaluated (t : Tank) (s : State) : Bool :=
  let r := tankRec t s
  r.role == .inService && r.probeEnabled && r.probeArmed && (channelRec (probeChannel t) s).valid

/-- A reading that is evaluated qualifies (R37). -/
def probeQualifies (t : Tank) (s : State) : Bool :=
  ((channelRec (probeChannel t) s).lastGood.any
      (fun v => 256 + s.settings.tripDelta ≤ v || v + s.settings.tripDelta ≤ 256)) &&
    s.meter.latest.any (fun x => 0 < x.household)

/-- A reading of a tank's probe channel reaches Bed Accounting (R37). -/
def probeReading (t : Tank) (s : State) : State :=
  let r := tankRec t s
  if probeEvaluated t s && probeQualifies t s then
    let s1 := setTank t { r with deviation := satAdd 3 r.deviation 1 } s
    if probeDue t s1 then probeTrip t s1 else s1
  else setTank t { r with deviation := 0 } s

/-! ## The end of a run (R42 to R44) -/

/-- The credit of a run's salt (R42). -/
def creditOf (dissolved : Nat) (c : Settings) : Nat := min c.nominalCapacity (dissolved * c.efficiency / 10)

/-- A softener tank's run ended DONE (R43). -/
def bedRunDone (t : Tank) (pending salt : Nat) (s : State) : State :=
  let r := tankRec t s
  if r.role ≠ .regenerating then s
  else
    let credit := min pending s.settings.nominalCapacity
    let r1 : TankRec := { r with
      role := .standby, credit := credit, remaining := credit, residue := 0, rinseIncomplete := false
      regenCount := if 0 < pending then satAdd Config.max16 r.regenCount 1 else r.regenCount
      lastRegen := some ⟨credit, salt, s.time.clock, none⟩ }
    changeoverTest (writeTrigger (setTank t r1 s))

/-- A softener tank's run was aborted after its BRINE step (R44, first case). -/
def bedAbortLate (t : Tank) (reason : AbortReason) (pending salt : Nat) (s : State) : State :=
  let r := tankRec t s
  let credit := min pending s.settings.nominalCapacity
  let r1 : TankRec := { r with
    role := .standby, credit := credit, remaining := credit, residue := 0, rinseIncomplete := true
    regenCount := if 0 < credit then satAdd Config.max16 r.regenCount 1 else r.regenCount
    lastRegen := some ⟨credit, salt, s.time.clock, some reason⟩ }
  changeoverTest (writeTrigger (raiseEvent (.rinseIncomplete t credit) (setTank t r1 s)))

/-- A softener tank's run was aborted before its BRINE step completed (R44, second case). -/
def bedAbortEarly (t : Tank) (reason : AbortReason) (salt : Nat) (s : State) : State :=
  let r := tankRec t s
  writeTrigger
    (setTank t { r with role := .waiting, lastRegen := some ⟨0, salt, s.time.clock, some reason⟩ } s)

/-- A softener tank's run was aborted (R44). -/
def bedRunAborted (t : Tank) (reason : AbortReason) (brineDone : Bool) (pending salt : Nat) (s : State) : State :=
  if (tankRec t s).role ≠ .regenerating then s
  else if brineDone then bedAbortLate t reason pending salt s
  else bedAbortEarly t reason salt s

/-! ## Restart (R23) -/

/-- Bed Accounting's part of a restart, after its records are restored (R23). -/
def bedRestart (s : State) : State :=
  let s1 := recomputeReserve { s with
    bed.compensated := compensatedOf s.settings
    bed.hardWater := false, bed.hardVolume := 0
    bed.changePending := false, bed.changeClass := none
    bed.tankA.residue := 0, bed.tankA.deviation := 0
    bed.tankB.residue := 0, bed.tankB.deviation := 0 }
  hardWaterTest (changeoverTest s1)

end Sys2Proof.Machine
end

