-- ==== Sys2Proof/Machine/BrineOps.lean ====
section
/-! DEFINITION. The Brine Monitor's operations (chapter 3): counters and rebaseline (R46), the stage with its reminder
rule (R59, R60), level readings (R48, R49), the salt of a run (R52 to R55), the salt day (R58) and the timers (R60). -/

namespace Sys2Proof.Machine

/-- The counters are cleared; the anchor becomes this level mass, absent or present (R46). -/
def clearCountersTo (level : Option Nat) (s : State) : State :=
  { s with brine.regens := 0, brine.modelDrop := 0, brine.levelDrop := 0, brine.anchor := level }

/-- The counters are cleared (R46). -/
def clearCounters (s : State) : State := clearCountersTo s.brine.levelMass s

/-- A rebaseline from a reading of this level mass, which the anchor takes (R46, log 30). -/
def rebaseline (level : Nat) (s : State) : State :=
  clearCountersTo (some level) { s with brine.model := level, brine.bridge := false }

/-! ## The stage and the reminder (R59, R60) -/

/-- The reminder timer's load, s (R60). -/
def reminderSeconds (s : State) : Nat := s.settings.reminderInterval * 3600

/-- SALT_REMINDER is raised with the stage, M_est and the days remaining (R60). -/
def raiseReminder (s : State) : State := raiseEvent (.saltReminder s.brine.stage (saltEstimate s) (daysRemaining s)) s

/-- The stage is evaluated and stored, and the timers follow the change (R59, R60). -/
def evalStage (s : State) : State :=
  let before := s.brine.stage
  let after := stageFound s
  let s1 := { s with brine.stage := after }
  if stageRank before < stageRank after then
    raiseReminder { s1 with brine.reminder := some (reminderSeconds s1), brine.snooze := none }
  else if after = .ok ∧ before ≠ .ok then { s1 with brine.reminder := none, brine.snooze := none }
  else s1

/-- The reminder timer has reached 0: it is loaded again, and a reminder is raised unless snoozed (R60). -/
def reminderExpiry (s : State) : State :=
  let s1 := { s with brine.reminder := some (reminderSeconds s) }
  if s.brine.snooze.isSome then s1 else raiseReminder s1

/-- The snooze timer has reached 0 and becomes absent (R60). -/
def snoozeExpiry (s : State) : State := { s with brine.snooze := none }

/-- The reminder timer stands at 0. -/
def reminderDue (s : State) : Bool := s.brine.reminder == some 0

/-- The snooze timer stands at 0. -/
def snoozeDue (s : State) : Bool := s.brine.snooze == some 0

/-- One second of the Brine Monitor: the brine age (R50), then the reminder and the snooze (R60, log 20). -/
def brineSecond (s : State) : State :=
  let s1 := { s with
    brine.age := satAdd 43200 s.brine.age 1
    brine.reminder := s.brine.reminder.map (· - 1) }
  let s2 := if reminderDue s1 then reminderExpiry s1 else s1
  let s3 := { s2 with brine.snooze := s2.brine.snooze.map (· - 1) }
  if snoozeDue s3 then snoozeExpiry s3 else s3

/-! ## Level readings (R48, R49) -/

/-- The salt height of a distance, mm (R48). -/
def saltHeight (distance : Nat) (c : Settings) : Nat := min c.depth (c.depth - distance)

/-- Steps 1 to 3 of R49: what the reading shows against the comparison mass. -/
def judgeLevel (level : Nat) (s : State) : State :=
  match s.brine.comparison with
  | none => rebaseline level s
  | some prev =>
    if prev + 5000 ≤ level then raiseEvent (.saltDetectedAdd s.brine.model level) (rebaseline level s)
    else if level + 1000 ≤ prev ∧ s.brine.bridge then { s with brine.bridge := false }
    else s

/-- An accepted reading of this distance (R48, R49). -/
def acceptLevel (distance : Nat) (s : State) : State :=
  let height := saltHeight distance s.settings
  let level := massOf height s.settings
  let s1 := judgeLevel level s
  let anchor := s1.brine.anchor.getD level
  evalStage { s1 with
    brine.height := height
    brine.levelMass := some level
    brine.comparison := some level
    brine.anchor := some anchor
    brine.levelDrop := anchor - level }

/-- A reading of the LEVEL channel reaches the Brine Monitor (R48). -/
def levelReading (s : State) : State :=
  if !s.analog.level.valid then evalStage { s with brine.levelMass := none }
  else if brineStepRunning s then s
  else match s.analog.level.lastGood with
    | some d => acceptLevel d s
    | none => s

/-! ## The salt of a run (R51 to R55) -/

/-- A REFILL step ended, or its run was aborted: the brine record is set from the refilled volume (R51). -/
def refillEnd (volume : Nat) (s : State) : State :=
  { s with brine.volume := min 1000000 volume, brine.age := 0 }

/-- The dwell factor (R52). -/
def dwellFactor (s : State) : Nat := min 256 (s.brine.age * 256 / s.settings.fullDwell)

/-- The strength factor S, the weakest of those that apply (R52). -/
def strengthFactor (s : State) : Nat :=
  min (dwellFactor s)
    (min (if s.brine.bridge then s.settings.bridgeFactor else 256)
      (if s.brine.stage = .out then s.settings.saltOutFactor else 256))

/-- The salt dissolved, g (R52). -/
def saltDissolved (s : State) : Nat := s.brine.volume * 317 / 1000 * strengthFactor s / 256

/-- The model falls by this much, stopping at 0; the fall joins the model drop (R53, R55). -/
def lowerModel (mass : Nat) (s : State) : State :=
  { s with
    brine.model := s.brine.model - mass
    brine.modelDrop := satAdd Config.max32 s.brine.modelDrop (min s.brine.model mass) }

/-- The salt joins the current day (R58). -/
def addSalt (mass : Nat) (s : State) : State := { s with brine.accum := satAdd 999999 s.brine.accum mass }

/-- The conditions of the bridge test (R54). -/
def bridgeFound (s : State) : Bool :=
  !s.brine.bridge && s.brine.levelMass.isSome && s.brine.anchor.isSome && 3 ≤ s.brine.regens &&
    4000 ≤ s.brine.modelDrop && s.brine.levelDrop < 1000

/-- The bridge test (R54). -/
def bridgeTest (s : State) : State :=
  if bridgeFound s then
    raiseEvent
      (.saltBridge s.brine.model (s.brine.levelMass.getD 0) s.brine.regens s.brine.modelDrop s.brine.levelDrop)
      { s with brine.bridge := true }
  else s

/-- A BRINE step completed with this dissolved figure (R53). -/
def brineCompletion (dissolved : Nat) (s : State) : State :=
  let s1 := addSalt dissolved (lowerModel dissolved s)
  evalStage (bridgeTest { s1 with brine.volume := 0, brine.regens := satAdd 255 s1.brine.regens 1 })

/-- The part of a whole drawn in an aborted BRINE step (R55). -/
def drawnPart (whole elapsed duration : Nat) : Nat := whole * elapsed / duration

/-- An abort during the BRINE step (R55); the partial figure is `drawnPart dissolved elapsed duration`. -/
def brineAbort (dissolved elapsed duration : Nat) (s : State) : State :=
  let part := drawnPart dissolved elapsed duration
  let s1 := addSalt part (lowerModel part s)
  evalStage { s1 with brine.volume := s1.brine.volume - drawnPart s1.brine.volume elapsed duration }

/-! ## The salt day (R58) -/

/-- A day rollover closes the salt day (R58). -/
def closeSaltDay (s : State) : State :=
  evalStage { s with brine.ring := s.brine.ring.drop 1 ++ [s.brine.accum], brine.accum := 0 }

/-! ## Settings (R47) -/

/-- A stored change of the geometry (R47). -/
def geometryChanged (s : State) : State :=
  evalStage (clearCountersTo none { s with
    brine.model := min s.brine.model (massCapacity s.settings)
    brine.levelMass := none
    brine.comparison := none })

end Sys2Proof.Machine
end

