-- ==== Sys2Proof/Machine/FilterOps.lean ====
section
/-! DEFINITION. The Filter Monitor's operations (chapter 6): the state by V_FLT (R104), the flow sample with its volume
counts, qualification and pressure measure (R105 to R108), the request (R109) and the two ends of a run (R110, R111). -/

namespace Sys2Proof.Machine

/-- The state outside a run, by V_FLT's status (R104). -/
def filterAtRest (s : State) : FilterState := if isAt .flt posService s then .inService else .bypassHeld

/-- V_FLT's status has changed: outside a run of F the state follows it (R104). -/
def filterStatusReport (s : State) : State :=
  if s.filter.state = .backwashing then s else { s with filter.state := filterAtRest s }

/-- The supply figure joins one of the two volume counts, as V_FLT stood AT(SERVICE) at the sample's expiry or not
(R105). -/
def countFiltered (served : Bool) (supply : Nat) (s : State) : State :=
  if served then { s with filter.volume := satAdd Config.max32 s.filter.volume supply }
  else { s with filter.unfiltered := satAdd Config.max32 s.filter.unfiltered supply }

/-- A sample is qualified (R107). -/
def filterQualified (x : Sample) (s : State) : Bool :=
  s.filter.state == .inService && isAt .flt posService s && 50 ≤ x.rate && x.rate ≤ 400 &&
    x.drain == 0 && x.refill == 0 && s.analog.pIn.valid && s.analog.pOut.valid

/-- The pressure loss (R107). -/
def filterDp (s : State) : Nat := s.analog.pIn.lastGood.getD 0 - s.analog.pOut.lastGood.getD 0

/-- The loss at the reference flow (R107). -/
def dpNorm (dp rate : Nat) : Nat := dp * 200 / rate

/-- The high count has reached 3 and no pressure trigger is latched (R108). -/
def pressureDue (s : State) : Bool := 3 ≤ s.filter.highCount && s.filter.trigger == none

/-- The pressure trigger latches WANTED (R108). -/
def latchPressure (s : State) : State := writeTrigger { s with filter.trigger := some .wanted }

/-- The pressure trigger becomes REQUIRED and FILTER_CLOGGED is raised (R108). -/
def latchClogged (norm dp rate : Nat) (s : State) : State :=
  writeTrigger (raiseEvent (.filterClogged norm dp rate (s.filter.volume / 1000))
    { s with filter.trigger := some .required })

/-- A qualified sample at or above the limit (R108). -/
def highDp (norm dp rate : Nat) (s : State) : State :=
  let s1 := { s with filter.highCount := satAdd 3 s.filter.highCount 1 }
  let s2 := if pressureDue s1 then latchPressure s1 else s1
  if 2 * s.settings.dpLimit ≤ norm ∧ s2.filter.trigger ≠ some .required then latchClogged norm dp rate s2 else s2

/-- The pressure measure of a qualified sample (R107, R108). -/
def measurePressure (x : Sample) (s : State) : State :=
  let dp := filterDp s
  let norm := dpNorm dp x.rate
  let s1 := { s with filter.lastDp := some norm }
  if norm < s.settings.dpLimit then { s1 with filter.highCount := 0 } else highDp norm dp x.rate s1

/-- The volume trigger stands, by the limit as it is stored now (R109, log 56). -/
def volumeStands (s : State) : Bool := s.settings.filterVolumeLimit * 1000000 ≤ s.filter.volume

/-- The day trigger stands, by the limit as it is stored now (R109, log 56). -/
def dayStands (s : State) : Bool := s.settings.filterDayLimit ≤ s.filter.days

/-- Class and reason of the highest standing trigger (R109). -/
def standingTrigger (s : State) : Option (Cls × Reason) :=
  match s.filter.trigger with
  | some .required => some (.required, .filterDp)
  | some .wanted => some (.wanted, .filterDp)
  | none =>
    if volumeStands s then some (.optional, .filterVolume)
    else if dayStands s then some (.optional, .filterDays)
    else none

/-- The request of the trigger test, as the Drain Queue takes it (R109, R111). -/
def filterRequest (s : State) : State :=
  match standingTrigger s with
  | some (cls, reason) => queueRequest .filter .f cls reason 0 s
  | none => s

/-- The Filter Monitor's part of a flow sample up to its request, which is a part of its own; `served` says that V_FLT
stood AT(SERVICE) at the expiry (R105), while the sample is qualified at the moment it is taken (R105 to R108, R111). -/
def filterSample (served : Bool) (x : Sample) (s : State) : State :=
  let s1 := countFiltered served x.supply s
  if filterQualified x s1 then measurePressure x s1 else s1

/-- A day rollover counts one day (R106). -/
def filterDay (s : State) : State := { s with filter.days := satAdd Config.max16 s.filter.days 1 }

/-- The backwash has begun (R110). -/
def filterBegun (s : State) : State := { s with filter.state := .backwashing }

/-- A run of F ended DONE: the record is reset (R110). -/
def filterDone (s : State) : State :=
  writeTrigger { s with filter := { state := filterAtRest s } }

/-- A run of F was aborted (R111). -/
def filterAborted (s : State) : State := { s with filter.state := filterAtRest s }

/-- The Filter Monitor's part of a restart (R102). -/
def filterRestart (s : State) : State :=
  { s with
    filter.state := if runNames .f s then .backwashing else .bypassHeld
    filter.highCount := 0, filter.lastDp := none, filter.unfiltered := 0 }

end Sys2Proof.Machine
end

