-- ==== Sys2Proof/Decode.lean ====
section
/-! DEFINITION. The table's words (no row of spec/opcode_table.json has bits, so no word spells a command), and the
frame of the service link: the message catalogue (R195), the CRC and the judgement of a frame (R183, R196), the message
that a frame's kind and payload spell, and the payload that carries a message (R195, R196). -/

namespace Sys2Proof

/-- No row of spec/opcode_table.json carries bits, so no word spells a command (log 31). -/
def decodeTableWord (_nbits _w : Nat) : Option Instr := none

namespace Link

/-- One bit of the CRC: shift left, and where the top bit leaves, add the polynomial 1021h (R196). -/
def crcBit (c : BitVec 16) : BitVec 16 :=
  if c.msb then (c <<< 1) ^^^ 0x1021 else c <<< 1

/-- One byte fed into the CRC from its most significant bit (R196). -/
def crcByte (c : BitVec 16) (b : Byte) : BitVec 16 :=
  let c0 := c ^^^ ((b.setWidth 16) <<< 8)
  crcBit (crcBit (crcBit (crcBit (crcBit (crcBit (crcBit (crcBit c0)))))))

/-- The CRC over the bytes from the length to the last payload byte, starting from FFFFh (R196). -/
def crc (bytes : List Byte) : BitVec 16 :=
  bytes.foldl crcByte 0xFFFF

/-- The two CRC bytes, high byte first (R196). -/
def crcBytes (bytes : List Byte) : List Byte :=
  [(crc bytes).extractLsb' 8 8, (crc bytes).extractLsb' 0 8]

/-- The catalogue of R195: the request payload length of each message kind. -/
def catalogue : List (Nat × Nat) :=
  [(0x01, 0), (0x02, 1), (0x03, 0), (0x04, 0), (0x05, 0), (0x06, 0), (0x07, 0), (0x08, 0),
   (0x10, 0), (0x11, 1), (0x12, 4), (0x18, 5), (0x19, 1), (0x1A, 4), (0x1B, 21), (0x1C, 0)] ++
  [(0x20, 11), (0x21, 1), (0x22, 2), (0x28, 2), (0x29, 1), (0x2A, 1), (0x2B, 1), (0x2C, 1),
   (0x30, 4), (0x31, 0), (0x32, 0), (0x38, 1), (0x39, 0), (0x3A, 0), (0x3B, 0), (0x3C, 0)] ++
  [(0x3D, 13), (0x3E, 1), (0x3F, 1), (0x40, 1), (0x41, 1), (0x42, 1), (0x43, 2), (0x44, 2), (0x7F, 1)]

/-- The request length the catalogue gives for a kind, none for a kind outside it (R185, R195). -/
def requestLength (kind : Byte) : Option Nat :=
  (catalogue.find? (fun e => e.1 == kind.toNat)).map (·.2)

/-- How the receiver judges the bytes that follow a sync byte (R182, R183). -/
inductive Judgement where
  /-- The length byte is above 96. -/
  | badLengthByte
  /-- The frame is complete and its CRC does not match. -/
  | badCrc
  /-- The frame is complete and its CRC matches. -/
  | accepted
  /-- The frame is not complete, or bytes follow its end. -/
  | notAFrame
  deriving DecidableEq, Repr

/-- The judgement of the bytes after the sync byte: length, kind, tag, payload, CRC (R182, R183). -/
def judge (bytes : List Byte) : Judgement :=
  match bytes with
  | [] => .notAFrame
  | n :: rest =>
    if Config.maxPayload < n.toNat then .badLengthByte
    else if rest.length ≠ n.toNat + 4 then .notAFrame
    else if crcBytes (n :: rest.take (n.toNat + 2)) = rest.drop (n.toNat + 2) then .accepted
    else .badCrc

/-- A frame: sync, length, kind, tag, payload, CRC (R196). -/
def frame (kind tag : Byte) (payload : List Byte) : List Byte :=
  let body := BitVec.ofNat 8 payload.length :: kind :: tag :: payload
  Config.syncByte :: (body ++ crcBytes body)

/-! ## What a frame spells (R195, R196) -/

/-- A request as its frame carries it: kind, tag and payload. -/
structure Request where
  kind : Byte
  tag : Byte
  payload : List Byte
  deriving DecidableEq, Repr

/-- A number of two bytes, high byte first (R196). -/
def split16 (x : BitVec 16) : List Byte := [x.extractLsb' 8 8, x.extractLsb' 0 8]

/-- A number of four bytes, high byte first (R196). -/
def split32 (x : BitVec 32) : List Byte :=
  [x.extractLsb' 24 8, x.extractLsb' 16 8, x.extractLsb' 8 8, x.extractLsb' 0 8]

/-- A table of flags, flag h at bit h mod 8 of byte h div 8, in this many bytes (R196). -/
def splitFlags {w : Nat} (bytes : Nat) (m : BitVec w) : List Byte :=
  (List.range bytes).map (fun k => m.extractLsb' (8 * k) 8)

/-- The table of flags that these bytes carry (R196). -/
def joinFlags (w : Nat) : List Byte → BitVec w
  | [] => 0
  | b :: rest => b.setWidth w ||| (joinFlags w rest <<< 8)

/-- The message a kind of the catalogue and a payload of its length spell, the fields in the order R195 lists them. -/
def readFields (kind tag : Byte) (payload : List Byte) : Instr :=
  let f := fun k => payload.getD k 0
  match kind.toNat with
  | 0x01 => .identify tag
  | 0x02 => .getStatus tag (f 0)
  | 0x03 => .getFlow tag
  | 0x04 => .getTanks tag
  | 0x05 => .getSalt tag
  | 0x06 => .getFilter tag
  | 0x07 => .getQueue tag
  | 0x08 => .getRun tag
  | 0x10 => .getEvents tag
  | 0x11 => .peekEvents tag (f 0)
  | 0x12 => .setAttentionMask tag (f 0 ++ f 1 ++ f 2 ++ f 3)
  | 0x18 => .setParam tag (f 0) (f 1 ++ f 2 ++ f 3 ++ f 4)
  | 0x19 => .getParam tag (f 0)
  | 0x1A => .setTime tag (f 0) (f 1) (f 2) (f 3)
  | 0x1B => .setQuietMap tag (joinFlags 168 payload)
  | 0x1C => .getQuietMap tag
  | 0x20 => .putStep tag (f 0) (f 1) (f 2) (f 3) (f 4 ++ f 5) (f 6) (f 7 ++ f 8) (f 9) (f 10)
  | 0x21 => .getStep tag (f 0)
  | 0x22 => .setEntry tag (f 0) (f 1)
  | 0x28 => .requestRegen tag (f 0) (f 1)
  | 0x29 => .requestBackwash tag (f 0)
  | 0x2A => .cancelRun tag (f 0)
  | 0x2B => .clearFault tag (f 0)
  | 0x2C => .enableProbe tag (f 0)
  | 0x30 => .saltAdded tag (f 0 ++ f 1 ++ f 2 ++ f 3)
  | 0x31 => .ackSalt tag
  | 0x32 => .clearBridge tag
  | 0x38 => .setAway tag (f 0)
  | 0x39 => .extendEpisode tag
  | 0x3A => .ackLeak tag
  | 0x3B => .shutoffClose tag
  | 0x3C => .shutoffOpen tag
  | 0x3D =>
    .putFixture tag (f 0) (f 1 ++ f 2) (f 3 ++ f 4) (f 5 ++ f 6) (f 7 ++ f 8)
      (joinFlags 24 [f 9, f 10, f 11]) (f 12)
  | 0x3E => .dropFixture tag (f 0)
  | 0x3F => .getFixture tag (f 0)
  | 0x40 => .enrolPod tag (f 0)
  | 0x41 => .retirePod tag (f 0)
  | 0x42 => .ackPod tag (f 0)
  | 0x43 => .getPod tag (f 0) (f 1)
  | 0x44 => .setPodPolicy tag (f 0) (f 1)
  | 0x7F => .reset tag (f 0)
  | _ => .badKind tag kind

/-- The message an accepted frame spells: BAD_KIND for a kind outside the catalogue, then BAD_LENGTH for a payload of
another length than the catalogue gives, then the message of the kind (R185, R195). -/
def readRequest (r : Request) : Instr :=
  match requestLength r.kind with
  | none => .badKind r.tag r.kind
  | some n =>
    if r.payload.length = n then readFields r.kind r.tag r.payload else .badLength r.tag r.kind r.payload.length

/-- The request in the bytes of an accepted frame, the sync byte left out (R196). -/
def requestIn (bytes : List Byte) : Request :=
  ⟨bytes.getD 1 0, bytes.getD 2 0, (bytes.drop 3).take (bytes.length - 5)⟩

/-- The request that carries a message (R195, R196); none for a command that is no message. BAD_KIND has no payload and
BAD_LENGTH one of zeros of its length, neither of which is read (log 29). -/
def requestOf : Instr → Option Request
  | .badKind tag kind => some ⟨kind, tag, []⟩
  | .badLength tag kind n => some ⟨kind, tag, List.replicate n 0⟩
  | .identify tag => some ⟨0x01, tag, []⟩
  | .getStatus tag code => some ⟨0x02, tag, [code]⟩
  | .getFlow tag => some ⟨0x03, tag, []⟩
  | .getTanks tag => some ⟨0x04, tag, []⟩
  | .getSalt tag => some ⟨0x05, tag, []⟩
  | .getFilter tag => some ⟨0x06, tag, []⟩
  | .getQueue tag => some ⟨0x07, tag, []⟩
  | .getRun tag => some ⟨0x08, tag, []⟩
  | .getEvents tag => some ⟨0x10, tag, []⟩
  | .peekEvents tag start => some ⟨0x11, tag, [start]⟩
  | .setAttentionMask tag mask => some ⟨0x12, tag, split32 mask⟩
  | .setParam tag id value => some ⟨0x18, tag, id :: split32 value⟩
  | .getParam tag id => some ⟨0x19, tag, [id]⟩
  | .setTime tag day hour minute second => some ⟨0x1A, tag, [day, hour, minute, second]⟩
  | .setQuietMap tag flags => some ⟨0x1B, tag, splitFlags 21 flags⟩
  | .getQuietMap tag => some ⟨0x1C, tag, []⟩
  | .putStep tag slot emptyMark phase measure amount capPresent cap holdAllowed next =>
    some ⟨0x20, tag, [slot, emptyMark, phase, measure] ++ split16 amount ++ [capPresent] ++ split16 cap ++
      [holdAllowed, next]⟩
  | .getStep tag slot => some ⟨0x21, tag, [slot]⟩
  | .setEntry tag pointer slot => some ⟨0x22, tag, [pointer, slot]⟩
  | .requestRegen tag tank mode => some ⟨0x28, tag, [tank, mode]⟩
  | .requestBackwash tag mode => some ⟨0x29, tag, [mode]⟩
  | .cancelRun tag unit => some ⟨0x2A, tag, [unit]⟩
  | .clearFault tag valve => some ⟨0x2B, tag, [valve]⟩
  | .enableProbe tag tank => some ⟨0x2C, tag, [tank]⟩
  | .saltAdded tag mass => some ⟨0x30, tag, split32 mass⟩
  | .ackSalt tag => some ⟨0x31, tag, []⟩
  | .clearBridge tag => some ⟨0x32, tag, []⟩
  | .setAway tag onOrOff => some ⟨0x38, tag, [onOrOff]⟩
  | .extendEpisode tag => some ⟨0x39, tag, []⟩
  | .ackLeak tag => some ⟨0x3A, tag, []⟩
  | .shutoffClose tag => some ⟨0x3B, tag, []⟩
  | .shutoffOpen tag => some ⟨0x3C, tag, []⟩
  | .putFixture tag id rateLow rateHigh maxMinutes maxLitres hours awayAllowed =>
    some ⟨0x3D, tag, id :: (split16 rateLow ++ split16 rateHigh ++ split16 maxMinutes ++ split16 maxLitres ++
      splitFlags 3 hours) ++ [awayAllowed]⟩
  | .dropFixture tag id => some ⟨0x3E, tag, [id]⟩
  | .getFixture tag id => some ⟨0x3F, tag, [id]⟩
  | .enrolPod tag policy => some ⟨0x40, tag, [policy]⟩
  | .retirePod tag address => some ⟨0x41, tag, [address]⟩
  | .ackPod tag address => some ⟨0x42, tag, [address]⟩
  | .getPod tag address start => some ⟨0x43, tag, [address, start]⟩
  | .setPodPolicy tag address policy => some ⟨0x44, tag, [address, policy]⟩
  | .reset tag option => some ⟨0x7F, tag, [option]⟩
  | _ => none

/-- The frame of a request after its sync byte: length, kind, tag, payload, CRC (R196). -/
def Request.body (r : Request) : List Byte := (frame r.kind r.tag r.payload).drop 1

end Link

end Sys2Proof
end

