-- ==== Sys2Proof/Machine/Operands.lean ====
section
/-! DEFINITION. The forms in which fields are carried in requests, replies and event details (R196): numbers high byte
first, named values by their position in the list that defines them, optional fields with a presence byte; and the
reply records of the blocks (log 11 for the layouts the manual leaves to inference). -/

namespace Sys2Proof.Machine

/-! ## Numbers and optional fields -/

/-- A one-byte number. -/
def u8 (n : Nat) : List Byte := [BitVec.ofNat 8 n]

/-- A two-byte number, high byte first. -/
def u16 (n : Nat) : List Byte := [BitVec.ofNat 8 (n / 256), BitVec.ofNat 8 n]

/-- A four-byte number, high byte first. -/
def u32 (n : Nat) : List Byte :=
  [BitVec.ofNat 8 (n / 16777216), BitVec.ofNat 8 (n / 65536), BitVec.ofNat 8 (n / 256), BitVec.ofNat 8 n]

/-- A signed number in one byte, two's complement. -/
def i8 (n : Int) : List Byte := [BitVec.ofInt 8 n]

/-- A signed number in four bytes, two's complement, high byte first. -/
def i32 (n : Int) : List Byte := u32 (BitVec.ofInt 32 n).toNat

/-- A yes-or-no field: 00h for no, 01h for yes. -/
def yesNo (b : Bool) : List Byte := if b then [1] else [0]

/-- An optional field: a presence byte and the field's bytes, which are 0 when it is absent. -/
def opt {α : Type} (width : Nat) (enc : α → List Byte) (x : Option α) : List Byte :=
  match x with
  | some v => 1 :: enc v
  | none => 0 :: List.replicate width 0

/-- A yes-or-no or presence byte as carried in a request; a byte that is neither is no value (log 26). -/
def readYesNo (b : Byte) : Option Bool :=
  if b = 0 then some false else if b = 1 then some true else none

/-! ## Named values -/

/-- Unit A is 0, B is 1 and F is 2. -/
def unitCode : HeadUnit → Nat
  | .a => 0
  | .b => 1
  | .f => 2

/-- Tanks as units. -/
def tankCode : Tank → Nat
  | .a => 0
  | .b => 1

/-- R87: OPTIONAL, WANTED, REQUIRED. -/
def clsCode : Cls → Nat
  | .optional => 0
  | .wanted => 1
  | .required => 2

/-- R33: the requested class is OPTIONAL or REQUIRED. -/
def requestedCode : Cls → Nat
  | .optional => 0
  | .wanted => 0
  | .required => 1

/-- R87. -/
def reasonCode : Reason → Nat
  | .metered => 0
  | .commanded => 1
  | .resumed => 2
  | .filterVolume => 3
  | .filterDays => 4
  | .filterDp => 5

/-- R94, in the order of its table. -/
def blockerCode : Blocker → Nat
  | .runActive => 0
  | .power => 1
  | .shutoff => 2
  | .leak => 3
  | .valveFault => 4
  | .deferred => 5
  | .noSample => 6
  | .notQuiet => 7
  | .flow => 8
  | .demand => 9

/-- R21. -/
def roleCode : Role → Nat
  | .inService => 0
  | .standby => 1
  | .waiting => 2
  | .regenerating => 3

/-- R21. -/
def urgencyCode : Urgency → Nat
  | .ample => 0
  | .due => 1
  | .short => 2
  | .spent => 3

/-- R64. -/
def phaseCode : Phase → Nat
  | .backwash => 0
  | .brine => 1
  | .rinse => 2
  | .refill => 3
  | .settle => 4

/-- R64. -/
def measureCode : Measure → Nat
  | .time => 0
  | .volume => 1

/-- R68; 0 is IDLE. -/
def runStateCode : RunState → Nat
  | .positioning => 1
  | .running => 2
  | .holding => 3
  | .suspended => 4
  | .finishing => 5

/-- R68. -/
def abortReasonCode : AbortReason → Nat
  | .commanded => 0
  | .valveFault => 1
  | .programmeError => 2
  | .power => 3
  | .restartLimit => 4

/-- R113: V_SHUT, V_FLT, V_SOFT. -/
def valveCode : Valve → Nat
  | .shut => 0
  | .flt => 1
  | .soft => 2

/-- R116. -/
def moveClassCode : MoveClass → Nat
  | .shutClose => 0
  | .shutOpen => 1
  | .park => 2
  | .changeover => 3
  | .run => 4

/-- R128. -/
def requesterCode : Requester → Nat
  | .runController => 0
  | .bedAccounting => 1
  | .shutoffControl => 2
  | .filterMonitor => 3

/-- R128. -/
def movePhaseCode : MovePhase → Nat
  | .settle => 0
  | .recheck => 1
  | .drive => 2
  | .extend => 3
  | .hold => 4

/-- R113. -/
def dirCode : Dir → Nat
  | .forward => 0
  | .reverse => 1

/-- R102. -/
def filterStateCode : FilterState → Nat
  | .inService => 0
  | .backwashing => 1
  | .bypassHeld => 2

/-- R102. -/
def triggerCode : PressureTrigger → Nat
  | .wanted => 0
  | .required => 1

/-- R142. -/
def leakStateCode : LeakState → Nat
  | .watch => 0
  | .suspect => 1
  | .isolating => 2
  | .isolated => 3
  | .probation => 4

/-- R196. -/
def leakCauseCode : LeakCause → Nat
  | .duration => 0
  | .volume => 1
  | .burst => 2
  | .pod => 3
  | .probation => 4

/-- R131. -/
def limitClassCode : LimitClass → Nat
  | .active => 0
  | .quiet => 1
  | .away => 2
  | .fixture => 3

/-- R196. -/
def limitReachedCode : LimitReached → Nat
  | .duration => 0
  | .volume => 1

/-- R59. -/
def stageCode : Stage → Nat
  | .ok => 0
  | .low => 1
  | .out => 2

/-- R156. -/
def policyCode : Policy → Nat
  | .shutoff => 0
  | .alarm => 1

/-- R156. -/
def loopStatusCode : LoopStatus → Nat
  | .active => 0
  | .silent => 1

/-- R156. -/
def podStateCode : PodState → Nat
  | .unknown => 0
  | .dry => 1
  | .wet => 2
  | .probeOpen => 3

/-- R170. -/
def regimeCode : Regime → Nat
  | .mains => 0
  | .reserve => 1
  | .dormant => 2

/-- R196. -/
def powerCauseCode : PowerCause → Nat
  | .mainsLost => 0
  | .mainsReturned => 1
  | .mainsConfirmed => 2
  | .batteryLow => 3

/-- R196. -/
def resetKindCode : ResetKind → Nat
  | .supply => 0
  | .brownout => 1
  | .pin => 2
  | .link => 3

/-- R196. -/
def resetOptionCode : ResetOption → Nat
  | .normal => 0
  | .factory => 1

/-- R19. -/
def channelCode : Channel → Nat
  | .pIn => 0
  | .pOut => 1
  | .probeA => 2
  | .probeB => 3
  | .batt => 4
  | .level => 5

/-- R196. -/
def meterCode : Meter → Nat
  | .supply => 0
  | .drain => 1

/-- R85. -/
def holdConditionCode : HoldCondition → Nat
  | .valveClear => 0
  | .programmeEdit => 1

/-- R196. -/
def causeCode : ProgrammeCause → Nat
  | .emptySlot => 0
  | .phase => 1
  | .loopLimit => 2

/-- The status codes of R196. -/
def statusCode : Status → Nat
  | .ok => 0x00
  | .clamped => 0x01
  | .busy => 0x02
  | .state => 0x03
  | .full => 0x04
  | .notFound => 0x05
  | .badValue => 0x06
  | .badKind => 0x07
  | .badLength => 0x08
  | .power => 0x09
  | .fault => 0x0A

/-- The tank a request's byte names. -/
def readTank (b : Byte) : Option Tank :=
  match b.toNat with
  | 0 => some .a
  | 1 => some .b
  | _ => none

/-- The unit a request's byte names. -/
def readUnit (b : Byte) : Option HeadUnit :=
  match b.toNat with
  | 0 => some .a
  | 1 => some .b
  | 2 => some .f
  | _ => none

/-- The valve a request's byte names. -/
def readValve (b : Byte) : Option Valve :=
  match b.toNat with
  | 0 => some .shut
  | 1 => some .flt
  | 2 => some .soft
  | _ => none

/-- The class a request's mode asks for: REQUIRED for NOW (0), OPTIONAL for QUIET (1) (R97, R98). -/
def readMode (b : Byte) : Option Cls :=
  match b.toNat with
  | 0 => some .required
  | 1 => some .optional
  | _ => none

/-- The policy a request's byte names. -/
def readPolicy (b : Byte) : Option Policy :=
  match b.toNat with
  | 0 => some .shutoff
  | 1 => some .alarm
  | _ => none

/-- The phase a request's byte names. -/
def readPhase (b : Byte) : Option Phase :=
  match b.toNat with
  | 0 => some .backwash
  | 1 => some .brine
  | 2 => some .rinse
  | 3 => some .refill
  | 4 => some .settle
  | _ => none

/-- The measure a request's byte names. -/
def readMeasure (b : Byte) : Option Measure :=
  match b.toNat with
  | 0 => some .time
  | 1 => some .volume
  | _ => none

/-- The option of a RESET request (R180). -/
def readResetOption (b : Byte) : Option ResetOption :=
  match b.toNat with
  | 0 => some .normal
  | 1 => some .factory
  | _ => none

/-- Away mode as carried: on is 0 and off is 1, by their places in R130's list (log 11). -/
def readAway (b : Byte) : Option Bool :=
  match b.toNat with
  | 0 => some true
  | 1 => some false
  | _ => none

/-! ## Records shared by replies and details -/

/-- A time of week: day, hour, minute, second, clock-set flag. -/
def encTime (t : TimeOfWeek) : List Byte :=
  u8 t.day ++ u8 t.hour ++ u8 t.minute ++ u8 t.second ++ yesNo t.clockSet

/-- The close-reason set: LEAK in bit 0, COMMANDED in bit 1, DORMANT in bit 2. -/
def encReasons (c : CloseSet) : List Byte :=
  u8 ((if c.leak then 1 else 0) + (if c.commanded then 2 else 0) + (if c.dormant then 4 else 0))

/-- A valve's status in two bytes (R128). -/
def encStatus : ValveStatus → List Byte
  | .atPos p => u8 0 ++ u8 p
  | .moving => u8 1 ++ u8 0
  | .unknown => u8 2 ++ u8 0
  | .fault => u8 3 ++ u8 0

/-- A position reading: its type and its value (R196). -/
def encReading : Reading → List Byte
  | .pos p => u8 0 ++ u8 p
  | .span d => u8 1 ++ u8 d
  | .invalid => u8 2 ++ u8 0

/-- The reason detail of RUN_ABORTED (R196). -/
def encAbortDetail : AbortDetail → List Byte
  | .none => u8 0 ++ u8 0
  | .programme c slot => u8 (causeCode c) ++ u8 slot
  | .valve v => u8 (valveCode v) ++ u8 0

/-- The detail of an event (R196). -/
def eventDetail : Event → List Byte
  | .reset k o restored resumed =>
      u8 (resetKindCode k) ++ u8 (resetOptionCode o) ++ yesNo restored ++ yesNo resumed
  | .snapshotLost => []
  | .clockUnset => []
  | .powerChange before after cause batt =>
      u8 (regimeCode before) ++ u8 (regimeCode after) ++ u8 (powerCauseCode cause) ++ opt 2 u16 batt
  | .sensorFault c => u8 (channelCode c)
  | .meterFault m u p => u8 (meterCode m) ++ u8 (unitCode u) ++ u8 (phaseCode p)
  | .changeover leaving entering r rinse =>
      u8 (tankCode leaving) ++ u8 (tankCode entering) ++ u16 r ++ yesNo rinse
  | .hardWater serving role byFault => u8 (tankCode serving) ++ u8 (roleCode role) ++ yesNo byFault
  | .probeCorrection t c0 c1 r0 r1 => u8 (tankCode t) ++ u16 c0 ++ u16 c1 ++ u16 r0 ++ u16 r1
  | .probeFault t credit r => u8 (tankCode t) ++ u16 credit ++ u16 r
  | .runStarted u c reason age slot =>
      u8 (unitCode u) ++ u8 (clsCode c) ++ u8 (reasonCode reason) ++ u32 age ++ u8 slot
  | .runDone u salt credit steps duration suspended used =>
      u8 (unitCode u) ++ u32 salt ++ u16 credit ++ u8 steps ++ u32 duration ++ u32 suspended ++ u16 used
  | .runAborted u a brineDone =>
      u8 (unitCode u) ++ u8 (abortReasonCode a.reason) ++ encAbortDetail a.detail ++ u8 a.slot ++
        [a.phaseCode] ++ yesNo brineDone
  | .stepCapped u slot p volume amount =>
      u8 (unitCode u) ++ u8 slot ++ u8 (phaseCode p) ++ u32 volume ++ u16 amount
  | .holdBudgetSpent u slot => u8 (unitCode u) ++ u8 slot
  | .rinseIncomplete t credit => u8 (tankCode t) ++ u16 credit
  | .filterClogged dpNorm dp rate litres => u16 dpNorm ++ u16 dp ++ u16 rate ++ u32 litres
  | .saltReminder st estimate days => u8 (stageCode st) ++ u32 estimate ++ opt 2 u16 days
  | .saltBridge model level regens modelDrop levelDrop =>
      u32 model ++ u32 level ++ u8 regens ++ u32 modelDrop ++ u32 levelDrop
  | .saltDetectedAdd before level => u32 before ++ u32 level
  | .valveFault v target c r =>
      u8 (valveCode v) ++ u8 target ++ u8 (moveClassCode c) ++ encReading r ++ yesNo (v == .shut)
  | .shutoffPassing volume reasons => u32 volume ++ encReasons reasons
  | .leakWarning l c fixture age volume =>
      u8 (limitReachedCode l) ++ u8 (limitClassCode c) ++ opt 1 u8 fixture ++ u32 age ++ u32 volume
  | .leakIsolated c volume pod seconds => u8 (leakCauseCode c) ++ u32 volume ++ opt 1 u8 pod ++ u32 seconds
  | .dripSuspect longest => u16 longest
  | .podWet a serial p => u8 a ++ u32 serial ++ u8 (policyCode p)
  | .podSilent a serial st => u8 a ++ u32 serial ++ u8 (podStateCode st)
  | .podBattery a mv => u8 a ++ u16 mv
  | .podCold a t => u8 a ++ i32 t
  | .enrolDone a serial p => opt 1 u8 a ++ opt 4 u32 serial ++ u8 (policyCode p)

/-- An entry of the pending-event set as a reply carries it (R196). -/
def encEvent (p : PendingEvent) : List Byte :=
  u8 (eventCode p.event) ++ u8 p.count ++ u32 p.time ++ u8 (eventDetail p.event).length ++ eventDetail p.event

/-- How many entries from the front fit, one after another, in the room that is left; the first that does not fit ends
the taking (R189). -/
def fitting (room : Nat) : List PendingEvent → Nat
  | [] => 0
  | p :: ps =>
    if (encEvent p).length ≤ room then fitting (room - (encEvent p).length) ps + 1 else 0

/-- A step record: phase, measure, amount, cap, hold allowed, next, 0 for END (R64, R195). -/
def encStep (st : Step) : List Byte :=
  u8 (phaseCode st.phase) ++ u8 (measureCode st.measure) ++ u16 st.amount ++ opt 2 u16 st.cap ++
    yesNo st.holdAllowed ++ u8 (st.next.getD 0)

/-- A slot's contents: the empty mark, then the step record (R66, R67), zeros for an empty slot (log 49). -/
def encSlot : Option Step → List Byte
  | some st => yesNo false ++ encStep st
  | none => yesNo true ++ List.replicate 9 0

/-- A queue entry: every field of R87. -/
def encEntry (e : Entry) : List Byte :=
  u8 (unitCode e.unit) ++ u8 (clsCode e.cls) ++ u8 (reasonCode e.reason) ++ u32 e.age ++ encTime e.entered ++
    u32 e.deferral

/-- A fixture record (R134). The flags of hours 0 to 7 are in the first of the three mask bytes (R196). -/
def encFixture (f : Fixture) : List Byte :=
  u16 f.rateLow ++ u16 f.rateHigh ++ u16 f.maxMinutes ++ u16 f.maxLitres ++
    [f.hours.extractLsb' 0 8, f.hours.extractLsb' 8 8, f.hours.extractLsb' 16 8] ++ yesNo f.awayAllowed

/-- A leak record (R143). -/
def encLeakRec (r : LeakRec) : List Byte :=
  u8 (leakCauseCode r.cause) ++ u32 r.counter ++ encTime r.time ++ u32 r.volume ++ opt 1 u8 r.pod

/-- A pod record: every field of R156. -/
def encPod (p : Pod) : List Byte :=
  u8 p.address ++ u32 p.serial ++ u8 (policyCode p.policy) ++ u8 (loopStatusCode p.status) ++
    u8 (podStateCode p.reported) ++ u8 (podStateCode p.acknowledged) ++ u8 p.misses ++ opt 2 u16 p.battery ++
    yesNo p.batteryLow ++ opt 4 i32 p.temperature ++ yesNo p.cold ++ opt 4 u32 p.lastReply

/-- The listen record (R163). -/
def encListen (l : Listen) : List Byte :=
  yesNo l.running ++ u8 (policyCode l.policy) ++ u8 l.seconds ++
    opt 5 (fun (o : Offer) => u32 o.serial ++ u8 o.address) l.candidate

/-- The reset record (R177). -/
def encResetRecord (r : ResetRecord) : List Byte :=
  u8 (resetKindCode r.kind) ++ u8 (resetOptionCode r.option) ++ yesNo r.restored ++ yesNo r.resumed

/-- The attention mask: kind code k at bit k − 1 from the least significant bit of the last byte (R196). -/
def encMask (m : BitVec 32) : List Byte := u32 m.toNat

/-- The 168 flags, flag h at bit h mod 8 of byte h div 8 (R196). -/
def encFlags (m : BitVec 168) : List Byte := (List.range 21).map (fun k => m.extractLsb' (8 * k) 8)

end Sys2Proof.Machine
end

