-- ==== Sys2Proof/Machine/RunOps.lean ====
section
/-! DEFINITION. The Run Controller's operations (chapter 4) and the dispatch of the Drain Queue (R95): entering a step,
progress, holds, suspension, abort, finishing, the end of a run and the re-queue holds. -/

namespace Sys2Proof.Machine

/-- The run context is replaced. -/
def setCtx (c : RunCtx) (s : State) : State := { s with run.ctx := some c }

/-- The step-entry copy takes the context as it stands (R68, R83). -/
def saveCopy (s : State) : State := writeTrigger { s with run.copy := s.run.ctx }

/-- The Run Controller sends a move request for the valve of the run and records it as the awaited move. -/
def sendMove (c : RunCtx) (kind : AwaitKind) (target : Nat) (cls : MoveClass) (s : State) : State :=
  postRequest c.unit.valve target cls .runController
    (setCtx { c with awaited := some ⟨c.unit.valve, target, kind⟩ } s)

/-- Any suspension cause is present (R68). -/
def RunCtx.suspendedBy (c : RunCtx) : Bool := c.susShutoff || c.susPower

/-- The state is POSITIONING, RUNNING, HOLDING or SUSPENDED. -/
def RunCtx.underWay (c : RunCtx) : Bool := c.state != .finishing

/-! ## The end of a run (R83 to R85, R96) -/

/-- The dissolved figure that an aborted run reports: the part that an abort during a BRINE step took back, a second one
too (R55); else the whole where a BRINE step had completed, and 0 before any (R44). -/
def saltOf (c : RunCtx) : Nat :=
  match c.abortedSalt with
  | some part => part
  | none => if c.brineDone then c.dissolved.getD 0 else 0

/-- A re-queue hold is held for a unit, at most one, behind those already held (R85, log 58). -/
def addHold (h : RequeueHold) (s : State) : State :=
  { s with run.holds := s.run.holds.filter (fun x => x.unit != h.unit) ++ [h] }

/-- The cancel deferral in seconds (R100). -/
def cancelSeconds (s : State) : Nat := s.settings.cancelDeferral * 60

/-- A unit that is not queued again: a softener tank whose BRINE had completed (R85). -/
def staysStandby (c : RunCtx) : Bool := c.unit != .f && c.brineDone

/-- The re-queueing of an aborted unit (R85). -/
def requeue (c : RunCtx) (reason : AbortReason) (s : State) : State :=
  if staysStandby c then s
  else match reason with
    | .commanded => queueRequest .run c.unit c.cls .resumed (cancelSeconds s) s
    | .programmeError => addHold ⟨c.unit, .required, .programmeEdit⟩ s
    | .valveFault | .power | .restartLimit =>
      if isFault c.unit.valve s then addHold ⟨c.unit, c.cls, .valveClear⟩ s
      else queueRequest .run c.unit c.cls .resumed 0 s

/-- RUN_DONE with its detail (R84). -/
def raiseDone (c : RunCtx) (s : State) : State :=
  raiseEvent (.runDone c.unit (if c.brineDone then c.dissolved.getD 0 else 0)
    (if c.unit = .f then 0 else c.pendingCredit) c.steps (s.time.counter - c.startCounter) c.suspendedTotal
    (c.budgetAtDispatch - c.budget)) s

/-- A run ended DONE: its report and event (R84). -/
def endDone (c : RunCtx) (s : State) : State :=
  raiseDone c (match c.unit.tank with
    | some t => bedRunDone t c.pendingCredit (if c.brineDone then c.dissolved.getD 0 else 0) s
    | none => filterDone s)

/-- A COMMANDED abort sets the unit deferral of its unit to the cancel deferral, by the setting as the run's end finds
it (R96, R100, log 40). -/
def deferCancelled (u : HeadUnit) (reason : AbortReason) (s : State) : State :=
  if reason = .commanded then setDeferral u (present (cancelSeconds s)) s else s

/-- A run ended ABORTED: its report, its event and its re-queueing (R85, R96). -/
def endAborted (c : RunCtx) (a : Abort) (s : State) : State :=
  let s1 := match c.unit.tank with
    | some t => bedRunAborted t a.reason c.brineDone c.pendingCredit (saltOf c) s
    | none => filterAborted s
  requeue c a.reason (deferCancelled c.unit a.reason (raiseEvent (.runAborted c.unit a c.brineDone) s1))

/-- The run ends in one action (R83, R96). -/
def runEnd (s : State) : State :=
  match s.run.ctx with
  | none => s
  | some c =>
    let s1 := { s with run.ctx := none, run.copy := none, queue.grant := none }
    let s2 := match c.outcome with
      | some (.aborted a) => endAborted c a s1
      | _ => endDone c s1
    push .regrant (writeTrigger s2)

/-! ## Finishing and abort (R82, R83) -/

/-- The valve of the run need not move at FINISHING: it stands AT its service position, or it has faulted (R83). -/
def endsAtOnce (c : RunCtx) (s : State) : Bool :=
  isAt c.unit.valve (restPosition c.unit) s ||
    (match c.outcome with
      | some (.aborted a) => a.reason == .valveFault
      | _ => false)

/-- The class of a finishing move (R83). -/
def finishClass (s : State) : MoveClass := if s.supply.regime = .mains then .run else .park

/-- The run takes an outcome and enters FINISHING (R83). Its suspension causes become empty (R82), and the power
suspended count stands as it is (log 57). -/
def toFinishing (c : RunCtx) (outcome : RunOutcome) (s : State) : State :=
  let c1 : RunCtx := { c with
    state := .finishing, slot := none, outcome := some outcome, susShutoff := false, susPower := false }
  let s1 := saveCopy (setCtx c1 s)
  if endsAtOnce c1 s1 then runEnd s1
  else sendMove c1 .finish (restPosition c.unit) (finishClass s1) s1

/-- The code of the phase at an abort; where the slot is empty there is none, and a free byte stands for it (log 12). -/
def abortPhase (c : RunCtx) (s : State) : Byte × State :=
  match currentPhase c s with
  | some p => (BitVec.ofNat 8 (phaseCode p), s)
  | none => drawByte s

/-- What an abort reports to the Brine Monitor: the part of a BRINE step, the refilled volume of a REFILL step; the
context takes back the partial figure (R82, R55, R51). -/
def reportAbort (c : RunCtx) (s : State) : RunCtx × State :=
  match currentStep c s with
  | some st =>
    match st.phase with
    | .brine =>
      let whole := c.dissolved.getD 0
      ({ c with abortedSalt := some (drawnPart whole c.elapsed st.amount) }, brineAbort whole c.elapsed st.amount s)
    | .refill => (c, refillEnd c.refilled s)
    | _ => (c, s)
  | none => (c, s)

/-- A run under way is aborted; `inStep` says that its current step was entered and has not ended (R82). -/
def abortRun (reason : AbortReason) (detail : AbortDetail) (inStep : Bool) (s : State) : State :=
  match s.run.ctx with
  | none => s
  | some c =>
    if c.underWay then
      let p := abortPhase c s
      let r := if inStep then reportAbort c p.2 else (c, p.2)
      toFinishing r.1 (.aborted ⟨reason, detail, c.slot.getD 0, p.1⟩) r.2
    else s

/-! ## Entering a step (R70, R71) -/

/-- The refill target of a REFILL step (R70). -/
def refillTargetOf (st : Step) (s : State) : Nat :=
  (st.amount * 100 + s.settings.refillRate - 1) / s.settings.refillRate

/-- The counts of a step at its entry (R70). Outside REFILL the refill target keeps that of the last REFILL step, 0
before any (R68, log 38). -/
def freshCounts (c : RunCtx) (st : Step) (s : State) : RunCtx :=
  { c with
    elapsed := 0, stepVolume := 0, refilled := 0, holdCount := 0, releaseCount := 0, posReached := false
    refillTarget := if st.phase = .refill then refillTargetOf st s else c.refillTarget }

/-- The salt and the credit are asked for once in a run, at the first BRINE entry (R71, R42). -/
def askSalt (c : RunCtx) (st : Step) (s : State) : RunCtx :=
  if st.phase = .brine ∧ c.saltComputed = false then
    { c with
      dissolved := some (saltDissolved s)
      pendingCredit := creditOf (saltDissolved s) s.settings
      saltComputed := true }
  else c

/-- The state in which a step stands when its valve has, or has not, reached its position. -/
def stepState (c : RunCtx) (reached : Bool) : RunState :=
  if c.suspendedBy then .suspended else if reached then .running else .positioning

/-- A step that passed the checks of R70 is entered. -/
def takeStep (c : RunCtx) (st : Step) (s : State) : State :=
  let c1 := askSalt (freshCounts c st s) st s
  let target := stepPosition c1.unit st.phase
  if isAt c1.unit.valve target s then
    saveCopy (setCtx { c1 with posReached := true, state := stepState c1 true } s)
  else saveCopy (sendMove { c1 with state := stepState c1 false } .step target .run s)

/-- The run enters the step of its current slot (R70). -/
def enterStep (s : State) : State :=
  match s.run.ctx with
  | none => s
  | some c =>
    match currentStep c s with
    | none => abortRun .programmeError (.programme .emptySlot (c.slot.getD 0)) false s
    | some st =>
      if phaseAllowed c.unit st.phase then takeStep c st s
      else abortRun .programmeError (.programme .phase (c.slot.getD 0)) false s

/-! ## Dispatch (R69, R95) -/

/-- The entry slot of a unit's programme (R65). -/
def entrySlot (u : HeadUnit) (s : State) : Nat := if u = .f then s.run.filterEntry else s.run.softEntry

/-- The context as dispatch fills it (R69). -/
def filledCtx (e : Entry) (s : State) : RunCtx :=
  { unit := e.unit, cls := e.cls, reason := e.reason
    slot := some (entrySlot e.unit s)
    budget := s.settings.holdBudget, budgetAtDispatch := s.settings.holdBudget
    startCounter := s.time.counter, startTime := s.time.clock }

/-- Bed Accounting makes a WAITING tank REGENERATING; the Filter Monitor hears that its backwash has begun (R69). -/
def unitBegun (u : HeadUnit) (s : State) : State :=
  match u.tank with
  | some t =>
    let r := tankRec t s
    if r.role = .waiting then setTank t { r with role := .regenerating } s else s
  | none => filterBegun s

/-- The dispatch of an entry, one action (R95). -/
def dispatchEntry (e : Entry) (s : State) : State :=
  let s1 := { removeEntry e.unit s with queue.grant := some e.unit }
  let s2 := { setCtx (filledCtx e s) s1 with run.holds := s1.run.holds.filter (fun h => h.unit != e.unit) }
  enterStep (raiseEvent (.runStarted e.unit e.cls e.reason e.age (entrySlot e.unit s)) (unitBegun e.unit s2))

/-- The first eligible entry in dispatch order (R94, R95). -/
def eligibleEntry (s : State) : Option Entry := s.queue.entries.find? (fun e => (blockerOf e s).isNone)

/-- The drain grant is re-evaluated (R95). -/
def reevaluateGrant (s : State) : State :=
  if s.queue.grant.isSome || s.run.ctx.isSome then s
  else match eligibleEntry s with
    | some e => dispatchEntry e s
    | none => s

/-! ## Step progress (R73 to R76) -/

/-- The step has reached its amount, cap or refill target (R73, R74, R75). -/
def stepReached (c : RunCtx) (st : Step) : Bool :=
  match st.phase, st.measure with
  | .refill, _ => c.refillTarget ≤ c.elapsed
  | _, .time => st.amount ≤ c.elapsed
  | _, .volume => st.amount * 100 ≤ c.stepVolume || st.cap.any (fun cap => cap ≤ c.elapsed)

/-- The step ends by its cap and not by its volume (R74). -/
def stepCapped (c : RunCtx) (st : Step) : Bool :=
  st.phase != .refill && st.measure == .volume && c.stepVolume < st.amount * 100

/-- What the end of a step tells its neighbours (R76): the completion of a BRINE step, with 0 for a later one, and the
end of a REFILL step. -/
def reportStepEnd (c : RunCtx) (st : Step) (s : State) : State :=
  match st.phase with
  | .brine => brineCompletion (if c.brineDone then 0 else c.dissolved.getD 0) s
  | .refill => refillEnd c.refilled s
  | _ => s

/-- The run follows the link of a step that has ended (R76). -/
def followLink (c : RunCtx) (st : Step) (s : State) : State :=
  match st.next with
  | none => toFinishing c .done s
  | some n =>
    if c.steps < 16 then enterStep (setCtx { c with steps := c.steps + 1, slot := some n } s)
    else abortRun .programmeError (.programme .loopLimit n) false (setCtx c s)

/-- The current step ends (R76). -/
def endStep (c : RunCtx) (st : Step) (s : State) : State :=
  let c1 : RunCtx := { c with restarts := 0, brineDone := c.brineDone || st.phase == .brine }
  followLink c1 st (reportStepEnd c st (setCtx c1 s))

/-- The current step is over, by its amount or by its cap, with STEP_CAPPED for the latter (R74, R76). -/
def stepOver (c : RunCtx) (st : Step) (s : State) : State :=
  endStep c st (if stepCapped c st then
    raiseEvent (.stepCapped c.unit (c.slot.getD 0) st.phase c.stepVolume st.amount) s else s)

/-- The context with its current step, while it is RUNNING. -/
def runningStep (s : State) : Option (RunCtx × Step) :=
  match s.run.ctx with
  | none => none
  | some c => if c.state = .running then (currentStep c s).map (fun st => (c, st)) else none

/-- The step that has reached its end (R76). -/
def stepDue (s : State) : Option (RunCtx × Step) := (runningStep s).filter (fun p => stepReached p.1 p.2)

/-- One sample's time, drain and refill on the step (R73, R74, R75). -/
def countStep (c : RunCtx) (st : Step) (x : Sample) : RunCtx :=
  let c1 : RunCtx := { c with elapsed := satAdd 50000 c.elapsed 1 }
  if st.phase = .refill then { c1 with refilled := c.refilled + x.refill }
  else if st.measure = .volume then { c1 with stepVolume := c.stepVolume + x.drain }
  else c1

/-! ## Demand holds (R77, R78) -/

/-- A sample counts toward a hold (R77). -/
def countsToHold (c : RunCtx) (st : Step) (x : Sample) (s : State) : Bool :=
  st.holdAllowed && 0 < c.budget && stepPosition c.unit st.phase != restPosition c.unit &&
    s.settings.holdThreshold ≤ x.rate

/-- The hold count has reached 10 in RUNNING (R77). -/
def holdDue (s : State) : Option RunCtx := s.run.ctx.filter (fun c => c.state == .running && 10 ≤ c.holdCount)

/-- The run becomes HOLDING (R77). -/
def enterHold (c : RunCtx) (s : State) : State :=
  sendMove { c with state := .holding, holdCount := 0, releaseCount := 0, posReached := false } .hold
    (restPosition c.unit) .run s

/-- The hold test of a sample (R77). -/
def holdTest (c : RunCtx) (st : Step) (x : Sample) (s : State) : State :=
  let s1 := setCtx { c with holdCount := if countsToHold c st x s then satAdd 10 c.holdCount 1 else 0 } s
  match holdDue s1 with
  | some c1 => enterHold c1 s1
  | none => s1

/-- The release count has reached 60, or the budget is spent, in HOLDING (R78). -/
def releaseDue (s : State) : Option RunCtx :=
  s.run.ctx.filter (fun c => c.state == .holding && (60 ≤ c.releaseCount || c.budget == 0))

/-- The hold is released, with HOLD_BUDGET_SPENT where the budget is at 0 (R78, log 19). -/
def releaseHold (c : RunCtx) (s : State) : State :=
  let s1 := if c.budget = 0 then raiseEvent (.holdBudgetSpent c.unit (c.slot.getD 0)) s else s
  sendMove { c with state := .positioning } .step (currentPosition c s) .run s1

/-- A sample taken in HOLDING (R78). -/
def holdSample (c : RunCtx) (x : Sample) (s : State) : State :=
  let s1 := setCtx { c with
    budget := c.budget - 1
    releaseCount := if x.rate < s.settings.holdThreshold then satAdd 60 c.releaseCount 1 else 0 } s
  match releaseDue s1 with
  | some c1 => releaseHold c1 s1
  | none => s1

/-! ## Suspension (R79 to R81) -/

/-- The power suspended count has reached the limit (R80). -/
def powerLimitDue (s : State) : Bool :=
  s.run.ctx.any (fun c => c.susPower && s.settings.powerLimit * 3600 ≤ c.powerSuspended)

/-- The power suspension limit aborts the run (R80, R82). -/
def powerLimitAbort (s : State) : State := abortRun .power .none true s

/-- A sample taken in SUSPENDED (R79, R80). -/
def suspendedSample (c : RunCtx) (s : State) : State :=
  let s1 := setCtx { c with
    suspendedTotal := satAdd Config.max32 c.suspendedTotal 1
    powerSuspended := if c.susPower then satAdd 259200 c.powerSuspended 1 else c.powerSuspended } s
  if powerLimitDue s1 then powerLimitAbort s1 else s1

/-- The step's position is asked for with class RUN (R81). -/
def reposition (c : RunCtx) (s : State) : State :=
  sendMove { c with state := .positioning, posReached := false } .step (currentPosition c s) .run s

/-- A parked BRINE step counts as complete: half its amount has elapsed (R81), and it is not one that a restart has
restored, which starts again from its beginning (R179, log 51). -/
def brineCounts (c : RunCtx) (st : Step) : Bool := !c.restored && st.amount / 2 ≤ c.elapsed

/-- A parked run resumes by its phase (R81). -/
def resumeParked (c : RunCtx) (st : Step) (s : State) : State :=
  let c1 : RunCtx := { c with parked := false, restored := false, posReached := false }
  match st.phase with
  | .refill => reposition c1 s
  | .brine =>
    if brineCounts c st then endStep c1 st (setCtx c1 s)
    else reposition { c1 with elapsed := 0, stepVolume := 0, refilled := 0 } s
  | _ => reposition { c1 with elapsed := 0, stepVolume := 0, refilled := 0 } s

/-- The run resumes (R81). -/
def resumeRun (c : RunCtx) (s : State) : State :=
  if c.parked then
    match currentStep c s with
    | some st => resumeParked c st s
    | none => reposition { c with parked := false, restored := false } s
  else if c.posReached then setCtx { c with state := .running } s
  else reposition c s

/-- The context that is SUSPENDED with no cause left (R81). -/
def resumeDue (s : State) : Option RunCtx :=
  s.run.ctx.filter (fun c => c.state == .suspended && !c.suspendedBy)

/-- The run resumes where the last cause is gone (R81). -/
def resumeIfDue (s : State) : State :=
  match resumeDue s with
  | some c => resumeRun c s
  | none => s

/-- V_SHUT has left AT(OPEN): SHUTOFF joins the causes (R79). -/
def addShutoff (s : State) : State :=
  match s.run.ctx with
  | none => s
  | some c =>
    if c.underWay then
      setCtx { c with susShutoff := true, state := .suspended, holdCount := 0, releaseCount := 0 } s
    else s

/-- V_SHUT is AT(OPEN): SHUTOFF leaves the causes (R79, R81). -/
def removeShutoff (s : State) : State :=
  match s.run.ctx with
  | none => s
  | some c => if c.underWay && c.susShutoff then resumeIfDue (setCtx { c with susShutoff := false } s) else s

/-- The regime has left MAINS: POWER joins the causes, and the valve of the run is parked (R80). -/
def addPower (s : State) : State :=
  match s.run.ctx with
  | none => s
  | some c =>
    if c.underWay then
      let c1 : RunCtx := { c with susPower := true, state := .suspended, holdCount := 0, releaseCount := 0 }
      if isAt c.unit.valve (restPosition c.unit) s then setCtx { c1 with parked := true } s
      else sendMove c1 .park (restPosition c.unit) .park s
    else s

/-- The regime has returned to MAINS: POWER leaves the causes and its count is 0 (R80, R81). -/
def removePower (s : State) : State :=
  match s.run.ctx with
  | none => s
  | some c =>
    if c.underWay && c.susPower then resumeIfDue (setCtx { c with susPower := false, powerSuspended := 0 } s) else s

/-! ## Flow samples (R73, R77, R78, R79) -/

/-- A sample taken in RUNNING: the step advances while V_SHUT is AT(OPEN), and where it does not end the hold test is
made (R73, R77). -/
def runningSample (c : RunCtx) (st : Step) (x : Sample) (s : State) : State :=
  if isAt .shut posOpen s then
    let c1 := countStep c st x
    if stepReached c1 st then stepOver c1 st (setCtx c1 s) else holdTest c1 st x s
  else holdTest c st x s

/-- The Run Controller's part of a flow sample. -/
def runSample (x : Sample) (s : State) : State :=
  match s.run.ctx with
  | none => s
  | some c =>
    match c.state with
    | .running =>
      match currentStep c s with
      | some st => runningSample c st x s
      | none => s
    | .holding => holdSample c x s
    | .suspended => suspendedSample c s
    | .positioning => s
    | .finishing => s

/-! ## Answers and reports of the Valve Drive (R72, R79, R85) -/

/-- The completion of the awaited move (R72). In RUNNING, which R72 does not list, it clears the awaited move and no
more (log 22). -/
def moveCompleted (c : RunCtx) (w : Awaited) (s : State) : State :=
  let c1 : RunCtx := { c with awaited := none }
  match c.state with
  | .positioning => setCtx { c1 with posReached := true, state := .running } s
  | .suspended =>
    setCtx { c1 with
      posReached := c.posReached || w.target == currentPosition c s
      parked := c.parked || w.kind == .park } s
  | .holding => setCtx c1 s
  | .running => setCtx c1 s
  | .finishing => runEnd (setCtx c1 s)

/-- The Valve Drive's answer to a request of the Run Controller (R72, R83). -/
def runAnswer (v : Valve) (req : MoveReq) (res : Answer) (s : State) : State :=
  match s.run.ctx with
  | none => s
  | some c =>
    match c.awaited with
    | none => s
    | some w =>
      if w.valve = v ∧ w.target = req.target then
        match res with
        | .completion => moveCompleted c w s
        | .fault => if c.underWay then abortRun .valveFault (.valve v) true s else runEnd s
        | .setAside => s
      else s

/-- The valve of the run has moved off the step's position: position reached is no longer so (log 14). -/
def positionLost (c : RunCtx) (after : ValveStatus) (s : State) : State :=
  if c.posReached ∧ after ≠ .atPos (currentPosition c s) then setCtx { c with posReached := false } s else s

/-- The valve of the run has changed its status (R72). -/
def runValveReport (v : Valve) (after : ValveStatus) (s : State) : State :=
  match runOf v s with
  | none => s
  | some c =>
    let s1 := positionLost c after s
    if after = .fault then abortRun .valveFault (.valve v) true s1 else s1

/-- V_SHUT has changed its status (R79). -/
def runShutReport (before after : ValveStatus) (s : State) : State :=
  if after = .atPos posOpen then removeShutoff s
  else if before = .atPos posOpen then addShutoff s
  else s

/-- The Run Controller reads a change of status (R114). -/
def runStatusReport (v : Valve) (before after : ValveStatus) (s : State) : State :=
  match v with
  | .shut => runShutReport before after s
  | .flt => runValveReport .flt after s
  | .soft => runValveReport .soft after s

/-- The holds that a condition picks are released, in the order in which they were held: each hands the Drain Queue its
request and is removed (R85, log 39). -/
def releaseHolds (pick : RequeueHold → Bool) (s : State) : State :=
  (s.run.holds.filter pick).foldl (fun st h => queueRequest .run h.unit h.cls .resumed 0 st)
    { s with run.holds := s.run.holds.filter (fun h => !pick h) }

/-- A valve has left FAULT: the VALVE_CLEAR holds of its units are released (R85). -/
def releaseValveHolds (v : Valve) (s : State) : State :=
  releaseHolds (fun h => h.condition == .valveClear && h.unit.valve == v) s

/-- A programme edit releases the holds that wait for one (R65, R66, R85). -/
def releaseEditHolds (s : State) : State := releaseHolds (fun h => h.condition == .programmeEdit) s

end Sys2Proof.Machine
end

