-- ==== Sys2Proof/Machine/MeterOps.lean ====
section
/-! DEFINITION. The operations of the Time Base (R2 to R7), the Meter Block (R8 to R17) and the Analog Scan (R19, R20):
the clock's second with its publications, the flow sample, the usage day, a channel reading. -/

namespace Sys2Proof.Machine

/-! ## The clock (R3, R4) -/

/-- The clock one second on; the flag says that the hour has advanced, the second flag that the day has (R3, R4). -/
def clockSecond (c : TimeOfWeek) : TimeOfWeek × Bool × Bool :=
  if c.second < 59 then ({ c with second := c.second + 1 }, false, false)
  else if c.minute < 59 then ({ c with second := 0, minute := c.minute + 1 }, false, false)
  else if c.hour < 23 then ({ c with second := 0, minute := 0, hour := c.hour + 1 }, true, false)
  else ({ c with second := 0, minute := 0, hour := 0, day := if c.day < 6 then c.day + 1 else 0 }, true, true)

/-- An hour-change publication: the limit class, the grant and the Store act on it (R3). -/
def publishHour (s : State) : State := push .regrant (writeTrigger (rechooseClass s))

/-- The usage day closes, and the rollover is handed on to Bed Accounting (R17, R30). -/
def closeUsageDay (s : State) : State :=
  let ring := s.meter.days ++ [s.meter.dayAccum / 1000]
  recomputeReserve { s with
    meter.days := ring.drop (ring.length - 7)
    meter.dayAccum := s.meter.dayAccum % 1000 }

/-- A day rollover reaches the three blocks that take it (R4). -/
def dayRollover (s : State) : State := filterDay (closeSaltDay (closeUsageDay s))

/-- The clock and the restart counter advance (R3). -/
def advanceClock (s : State) : State :=
  { s with time.clock := (clockSecond s.time.clock).1, time.counter := satAdd Config.max32 s.time.counter 1 }

/-- The Time Base's second: the advance, then the publications it brings (R3, R4). At midnight the re-evaluation of the
grant that the hour change brings is handled after the day rollover (log 53). -/
def timeSecond (s : State) : State :=
  let moved := (clockSecond s.time.clock).2
  let s1 := advanceClock s
  let s2 := if moved.1 then publishHour s1 else s1
  if moved.2 then dayRollover s2 else s2

/-- Hour of week and quiet status differ from those before: an hour-change publication (R6, R7). -/
def publishIfMoved (before : State) (s : State) : State :=
  if hourOfWeek before.time.clock ≠ hourOfWeek s.time.clock ∨ quietNow before ≠ quietNow s then publishHour s else s

/-! ## Metering (R9 to R16) -/

/-- A pulse is counted (R9). -/
def countPulse (m : Meter) (s : State) : State :=
  match m with
  | .supply => { s with meter.supplyCount := satAdd Config.max16 s.meter.supplyCount 1 }
  | .drain => { s with meter.drainCount := satAdd Config.max16 s.meter.drainCount 1 }

/-- Pulses and a residue become a figure, mL, and the new residue (R10). -/
def convert (pulses residue k : Nat) : Nat × Nat :=
  let n := pulses * 1000 + residue
  if Config.figureLimit < n / k then (Config.figureLimit, 0) else (n / k, n % k)

/-- The refill figure (R11). -/
def refillFigure (s : State) : Nat :=
  if (isAt .soft (refillPos .a) s || isAt .soft (refillPos .b) s) && isAt .shut posOpen s then s.settings.refillRate
  else 0

/-- The nominal drain figure of a sample (R8). -/
def nominalFigure (c : Settings) : Nat := c.nominalDrain * 100 / 60

/-- The zero-drain count has reached 60 in a drain-using step while the meter is valid (R13). -/
def meterFaultDue (s : State) : Option (HeadUnit × Phase) :=
  if 60 ≤ s.meter.zeroDrain && s.meter.drainValid then drainUsing s else none

/-- The drain meter becomes invalid and METER_FAULT is raised (R13). -/
def meterFault (u : HeadUnit) (p : Phase) (s : State) : State :=
  raiseEvent (.meterFault .drain u p) { s with meter.drainValid := false }

/-- The zero-drain count and the drain meter state at an expiry (R13). -/
def judgeDrain (s : State) : State :=
  if 0 < s.meter.drainCount then { s with meter.zeroDrain := 0, meter.drainValid := true }
  else if (drainUsing s).isNone then { s with meter.zeroDrain := 0 }
  else if s.meter.drainValid then
    let s1 := { s with meter.zeroDrain := satAdd 60 s.meter.zeroDrain 1 }
    match meterFaultDue s1 with
    | some (u, p) => meterFault u p s1
    | none => s1
  else s

/-- The drain figure: the measured one, or the nominal one while the meter is invalid in a drain-using step (R12). -/
def drainFigure (measured : Nat) (s : State) : Nat :=
  if !s.meter.drainValid && (drainUsing s).isSome then nominalFigure s.settings else measured

/-- The five most recent household figures, with this one joined (R15). -/
def nextWindow (window : List Nat) (household : Nat) : List Nat :=
  let w := window ++ [household]
  w.drop (w.length - 5)

/-- The household rate of a window (R15). -/
def windowRate (window : List Nat) : Nat := total window * 12 / 100

/-- The sample of an expiry, from the figures of both meters (R11 to R16). -/
def formSample (supply measured : Nat) (s : State) : Sample :=
  let drain := drainFigure measured s
  let refill := refillFigure s
  let household := supply - (drain + refill)
  { time := s.time.counter, supply := supply, drain := drain, refill := refill, household := household
    deficit := drain + refill - supply
    rate := windowRate (nextWindow s.meter.window household), drainValid := s.meter.drainValid }

/-- The household figure joins the current-day accumulator; past the end of its range the manual states no value (R17,
log 13). -/
def addUsage (household : Nat) (s : State) : State :=
  if s.meter.dayAccum + household ≤ Config.usageDayLimit then
    { s with meter.dayAccum := s.meter.dayAccum + household }
  else
    { s with
      meter.dayAccum := min Config.usageDayLimit (Config.freeCount s.freeSeed), freeSeed := s.freeSeed + 1 }

/-- The Meter Block keeps a sample, its window, its deficit and its usage (R14 to R17). -/
def keepSample (x : Sample) (s : State) : State :=
  addUsage x.household { s with
    meter.window := nextWindow s.meter.window x.household
    meter.latest := some x
    meter.deficit := satAdd Config.max32 s.meter.deficit x.deficit }

/-- Both interval counts are closed and the next interval starts (R9, R10). -/
def closeCounts (supplyResidue drainResidue : Nat) (s : State) : State :=
  { s with
    meter.supplyCount := 0, meter.drainCount := 0
    meter.supplyResidue := supplyResidue, meter.drainResidue := drainResidue }

/-- The interval expires and the sample is formed and kept (R9 to R17). -/
def closeInterval (s : State) : Sample × State :=
  let supply := convert s.meter.supplyCount s.meter.supplyResidue s.settings.supplyK
  let drain := convert s.meter.drainCount s.meter.drainResidue s.settings.drainK
  let s1 := judgeDrain s
  let x := formSample supply.1 drain.1 s1
  (x, keepSample x (closeCounts supply.2 drain.2 s1))

/-! ## The Analog Scan (R19, R20) -/

/-- The rails of a channel (R19). -/
def rails : Channel → Int × Int
  | .pIn => (0, 1600)
  | .pOut => (0, 1600)
  | .probeA => (0, 1023)
  | .probeB => (0, 1023)
  | .batt => (0, 16000)
  | .level => (50, 1500)

/-- A raw reading at or beyond a rail is saturated (R19). -/
def saturates (c : Channel) (raw : Int) : Bool := raw ≤ (rails c).1 || (rails c).2 ≤ raw

/-- The clamped reading (R19). -/
def clampReading (c : Channel) (raw : Int) : Nat := (clampInt (rails c).1 (rails c).2 raw).toNat

/-- The channel record after a reading (R20). -/
def readChannel (c : Channel) (raw : Int) (r : ChannelRec) : ChannelRec :=
  let v := clampReading c raw
  if saturates c raw then
    let n := satAdd 3 r.saturated 1
    { r with value := some v, saturated := n, valid := r.valid && n < 3 }
  else { value := some v, valid := true, saturated := 0, lastGood := some v }

/-- The reading brings the saturated count to 3 (R20). -/
def faultsChannel (c : Channel) (raw : Int) (r : ChannelRec) : Bool := saturates c raw && r.saturated == 2

/-- A reading updates its channel's record, with SENSOR_FAULT at the third saturated one (R20). -/
def scanChannel (c : Channel) (raw : Int) (s : State) : State :=
  let r := channelRec c s
  let s1 := setChannel c (readChannel c raw r) s
  if faultsChannel c raw r then raiseEvent (.sensorFault c) s1 else s1

end Sys2Proof.Machine
end

