-- ==== Sys2Proof/Machine/LoopOps.lean ====
section
/-! DEFINITION. The Loop Master's operations (chapter 9): the poll timer and the cycle (R157, R158), the end of each
transaction (R159, R164, R166, R167), what a STATUS does (R160, R161), the listen (R163, R165) and the pod table. -/

namespace Sys2Proof.Machine

/-! ## The pod table (R156) -/

/-- The enrolled pod at an address. -/
def podAt (address : Nat) (s : State) : Option Pod := s.loop.pods.find? (fun p => p.address == address)

/-- The enrolled pod of a serial. -/
def podOfSerial (serial : Nat) (s : State) : Option Pod := s.loop.pods.find? (fun p => p.serial == serial)

/-- The record of the pod at this one's address is replaced by it. -/
def setPod (p : Pod) (s : State) : State :=
  { s with loop.pods := s.loop.pods.map (fun q => if q.address == p.address then p else q) }

/-- A record joins the table at its place in ascending address (R158). -/
def insertPod (p : Pod) : List Pod → List Pod
  | [] => [p]
  | q :: qs => if p.address < q.address then p :: q :: qs else q :: insertPod p qs

/-- An address is free: no pod holds it and no release is outstanding for it (R164). -/
def addressFree (address : Nat) (s : State) : Bool :=
  !s.loop.pods.any (fun p => p.address == address) && !s.loop.releases.any (fun r => r.address == address)

/-- The lowest free address (R164). -/
def lowestFree (s : State) : Option Nat :=
  ((List.range 63).map (· + 1)).find? (fun a => addressFree a s)

/-! ## What a pod reports (R159 to R161) -/

/-- The state of a STATUS as a reported state (R155, R156). -/
def stateOfWord : StatusWord → PodState
  | .dry => .dry
  | .wet => .wet
  | .probeOpen => .probeOpen

/-- A third consecutive miss of an ACTIVE pod (R159). -/
def silentDue (p : Pod) : Bool := 3 ≤ p.misses && p.status == .active

/-- The pod becomes SILENT and POD_SILENT is raised (R159). -/
def podSilent (p : Pod) (s : State) : State :=
  raiseEvent (.podSilent p.address p.serial p.reported) (setPod { p with status := .silent } s)

/-- A POLL ended with a miss (R159). -/
def podMiss (p : Pod) (s : State) : State :=
  let p1 := { p with misses := satAdd 3 p.misses 1 }
  let s1 := setPod p1 s
  if silentDue p1 then podSilent p1 s1 else s1

/-- The acknowledged state follows a pod that is no longer wet (R160, step 2). -/
def dryAcknowledged (p : Pod) (new : PodState) : PodState :=
  if new ≠ .wet ∧ p.acknowledged = .wet then new else p.acknowledged

/-- A reported state that differs is taken, in the order of R160. -/
def podStateChange (p : Pod) (new : PodState) (s : State) : State :=
  let p1 := { p with reported := new, acknowledged := dryAcknowledged p new }
  let s1 := setPod p1 s
  let s2 := if p1.acknowledged = p.acknowledged then s1 else writeTrigger s1
  let s3 := if podUnacknowledged p1 then raiseEvent (.podWet p.address p.serial p.policy) s2 else s2
  if new = .wet ∧ p.policy = .shutoff then podWetReport p.address s3 else s3

/-- The battery figure of a STATUS (R161). -/
def podBattery (address : Nat) (battery : Option Nat) (s : State) : State :=
  match podAt address s with
  | none => s
  | some p =>
    let p1 := { p with battery := battery }
    match battery with
    | none => setPod p1 s
    | some mv =>
      if mv < 2600 ∧ p.batteryLow = false then
        raiseEvent (.podBattery address mv) (setPod { p1 with batteryLow := true } s)
      else if 2700 ≤ mv then setPod { p1 with batteryLow := false } s
      else setPod p1 s

/-- The temperature of a STATUS (R161). -/
def podTemperature (address : Nat) (temperature : Option Int) (s : State) : State :=
  match podAt address s with
  | none => s
  | some p =>
    let p1 := { p with temperature := temperature }
    match temperature with
    | none => setPod p1 s
    | some t =>
      if t ≤ s.settings.freezeThreshold ∧ p.cold = false then
        raiseEvent (.podCold address t) (setPod { p1 with cold := true } s)
      else if s.settings.freezeThreshold + 4 ≤ t then setPod { p1 with cold := false } s
      else setPod p1 s

/-- A POLL ended with a clean STATUS (R159 to R161). -/
def podClean (p : Pod) (r : PodReport) (s : State) : State :=
  let p1 := { p with misses := 0, lastReply := some s.time.counter, status := .active }
  let s1 := setPod p1 s
  let new := stateOfWord r.state
  let s2 := if p.reported = new then s1 else podStateChange p1 new s1
  podTemperature p.address r.temperature (podBattery p.address r.battery s2)

/-- The outcome of a POLL reaches the record of the polled pod, where there still is one (R159, R168). -/
def pollOutcome (address : Nat) (o : PollOutcome) (s : State) : State :=
  match podAt address s with
  | none => s
  | some p =>
    match o with
    | .miss => podMiss p s
    | .clean r => podClean p r s

/-! ## The cycle (R157, R158) -/

/-- The transaction in flight is replaced. -/
def setFlight (t : Option Transaction) (s : State) : State := { s with loop.inFlight := t }

/-- The poll period of the regime; no cycle begins in DORMANT (R157). -/
def pollPeriod : Regime → Nat
  | .mains => 10
  | .reserve => 60
  | .dormant => 60

/-- The next POLL: the lowest address above the last one polled (R158). -/
def nextPoll (s : State) : Option Nat :=
  (s.loop.pods.find? (fun p => s.loop.lastPolled < p.address)).map (·.address)

/-- The POLL of an address sets out. -/
def sendPoll (address : Nat) (s : State) : State :=
  setFlight (some (.poll address)) { s with loop.lastPolled := address }

/-- The release held for this serial and this address (R167). -/
def releaseOf (of : Offer) (r : Release) : Bool := r.serial == of.serial && r.address == of.address

/-- The ASSIGN of a release sets out, and its try count increments (R167). -/
def sendRelease (of : Offer) (rest : List Offer) (s : State) : State :=
  setFlight (some (.release of)) { s with
    loop.toRelease := rest
    loop.releases := s.loop.releases.map (fun r => if releaseOf of r then { r with tries := r.tries + 1 } else r) }

/-- A recovery transaction is due (R166). -/
def recoveryDue (s : State) : Bool := s.loop.firstSinceDormant || s.loop.pods.any (fun p => p.status == .silent)

/-- The cycle ends. -/
def endCycle (s : State) : State :=
  setFlight none { s with loop.firstSinceDormant := false, loop.toRelease := [] }

/-- The POLLs of pods enrolled in the cycle above the last address polled, then the end (R158, R164). -/
def tailOrEnd (s : State) : State :=
  match nextPoll s with
  | some a => sendPoll a s
  | none => endCycle s

/-- The enrolment transaction of a listen: none once it has run into DORMANT (R164, R165). -/
def enrolTransaction (l : Listen) : Option Transaction :=
  if l.muted then none
  else match l.candidate with
    | some offer => some (.enrolAssign offer false)
    | none => some .enrolDiscover

/-- The closing transactions: enrolment while a listen runs, recovery when none runs and it is due (R158, R164 to
R166). -/
def closingTransaction (s : State) : State :=
  if s.loop.closingOver then tailOrEnd s
  else
    let s1 := { s with loop.closingOver := true }
    if s.loop.listen.running then
      match enrolTransaction s.loop.listen with
      | some x => setFlight (some x) s1
      | none => tailOrEnd s1
    else if recoveryDue s1 then setFlight (some .recoveryDiscover) s1
    else tailOrEnd s1

/-- A release is still outstanding. -/
def outstanding (s : State) (of : Offer) : Bool := s.loop.releases.any (releaseOf of)

/-- The release transactions, oldest first, and after them the closing ones (R158, R167). -/
def releaseTransaction (s : State) : State :=
  match s.loop.toRelease.dropWhile (fun of => !outstanding s of) with
  | of :: rest => sendRelease of rest s
  | [] => closingTransaction { s with loop.toRelease := [] }

/-- The releases a cycle sends, fixed when its first pass of POLLs is over (R167, log 21). -/
def releasesToSend (s : State) : List Offer := s.loop.releases.map (fun r => ⟨r.serial, r.address⟩)

/-- The next transaction of a cycle that goes on (R158). -/
def chooseTransaction (s : State) : State :=
  if s.loop.pollsOver then releaseTransaction s
  else match nextPoll s with
    | some a => sendPoll a s
    | none => releaseTransaction { s with loop.pollsOver := true, loop.toRelease := releasesToSend s }

/-- A poll cycle begins (R157, R158). -/
def beginCycle (s : State) : State :=
  chooseTransaction { s with
    loop.lastPolled := 0, loop.pollsOver := false, loop.closingOver := false, loop.toRelease := [] }

/-- The loop takes no further transaction of this cycle: DORMANT has begun in it (R157). -/
def cycleStops (s : State) : Bool := s.loop.stopping || s.supply.regime == .dormant

/-- The cycle stops; where DORMANT has been left meanwhile, the one that begins at once begins now (R157). -/
def stopCycle (s : State) : State :=
  let s1 := setFlight none { s with loop.stopping := false }
  if s.supply.regime = .dormant then s1 else beginCycle s1

/-- The next transaction of the cycle, unless DORMANT stops it (R157, R158). -/
def nextTransaction (s : State) : State := if cycleStops s then stopCycle s else chooseTransaction s

/-- The poll timer stands at 0 outside DORMANT (R157). -/
def pollDue (s : State) : Bool := s.loop.pollTimer == 0 && s.supply.regime != .dormant

/-- The poll timer has reached 0: it is loaded with the period, and a cycle begins unless one is in progress (R157,
log 21). -/
def pollExpiry (s : State) : State :=
  let s1 := { s with loop.pollTimer := pollPeriod s.supply.regime }
  if s.loop.inFlight.isSome then s1 else beginCycle s1

/-! ## The listen (R163 to R165) -/

/-- An enrolment transaction is in flight (R165). -/
def enrolInFlight (s : State) : Bool :=
  match s.loop.inFlight with
  | some .enrolDiscover => true
  | some (.enrolAssign _ _) => true
  | _ => false

/-- The listen's seconds stand at 0 (R165). -/
def listenDue (s : State) : Bool := s.loop.listen.running && s.loop.listen.seconds == 0

/-- The listen ends with no pod (R165). -/
def listenExpire (s : State) : State :=
  raiseEvent (.enrolDone none (s.loop.listen.candidate.map (·.serial)) s.loop.listen.policy)
    { s with loop.listen := { s.loop.listen with running := false, candidate := none } }

/-- The listen ends where its seconds have reached 0 (R165). -/
def expireIfDue (s : State) : State := if listenDue s then listenExpire s else s

/-- The candidate is enrolled (R164). -/
def enrolPod (o : Offer) (s : State) : State :=
  let p : Pod := { address := o.address, serial := o.serial, policy := s.loop.listen.policy }
  writeTrigger (raiseEvent (.enrolDone (some o.address) (some o.serial) s.loop.listen.policy)
    { s with
      loop.pods := insertPod p s.loop.pods
      loop.listen := { s.loop.listen with running := false, candidate := none } })

/-- The enrolment DISCOVER had no clean answer (R164). -/
def discoverSilent (s : State) : State := nextTransaction (expireIfDue (setFlight none s))

/-- After a clean answer an ASSIGN follows in the same cycle while listen and loop are still on (R164, R165). -/
def thenAssign (o : Offer) (known : Bool) (s : State) : State :=
  if listenDue s then nextTransaction (listenExpire (setFlight none s))
  else if cycleStops s then stopCycle s
  else setFlight (some (.enrolAssign o known)) s

/-- The enrolment DISCOVER ended (R164). A new serial is the candidate before a listen whose seconds are spent ends, so
that ENROL_DONE carries it (R165, log 21). -/
def enrolDiscoverEnd (answer : Option Nat) (s : State) : State :=
  match answer with
  | none => discoverSilent s
  | some serial =>
    match podOfSerial serial s with
    | some p => thenAssign ⟨serial, p.address⟩ true s
    | none =>
      match lowestFree s with
      | some a => thenAssign ⟨serial, a⟩ false
          { s with loop.listen := { s.loop.listen with candidate := some ⟨serial, a⟩ } }
      | none => discoverSilent s

/-- The enrolment ASSIGN ended (R164, R165). A clean CONFIRM enrols, also one of an ASSIGN that was in flight when DORMANT
began (log 52). -/
def enrolAssignEnd (o : Offer) (known : Bool) (confirmed : Option Nat) (s : State) : State :=
  let s1 := setFlight none s
  let s2 := if !known && confirmed == some o.address then enrolPod o s1 else s1
  nextTransaction (expireIfDue s2)

/-! ## Recovery and release (R166, R167) -/

/-- The recovery DISCOVER ended (R166). -/
def recoveryDiscoverEnd (answer : Option Nat) (s : State) : State :=
  match answer.bind (fun n => podOfSerial n s) with
  | some p =>
    if cycleStops s then stopCycle s
    else setFlight (some (.recoveryAssign ⟨p.serial, p.address⟩)) s
  | none => nextTransaction (setFlight none s)

/-- The release is over: a clean CONFIRM of address 0, or a third try (R167). -/
def releaseOver (of : Offer) (confirmed : Option Nat) (r : Release) : Bool :=
  releaseOf of r && (confirmed == some 0 || 3 ≤ r.tries)

/-- A release ASSIGN ended (R167). -/
def releaseAssignEnd (of : Offer) (confirmed : Option Nat) (s : State) : State :=
  nextTransaction (setFlight none
    { s with loop.releases := s.loop.releases.filter (fun r => !releaseOver of confirmed r) })

/-- A pod's record leaves the table and a release is held for it, at most 24 of them (R167). -/
def retirePod (p : Pod) (s : State) : State :=
  let held := s.loop.releases ++ [⟨p.serial, p.address, 0⟩]
  writeTrigger { s with
    loop.pods := s.loop.pods.filter (fun q => q.address != p.address)
    loop.releases := held.drop (held.length - 24) }

/-! ## Seconds and regimes (R157, R163) -/

/-- One second on the poll timer; it does not count in DORMANT (R157). -/
def pollSecond (s : State) : State :=
  if s.supply.regime = .dormant then s
  else
    let s1 := { s with loop.pollTimer := s.loop.pollTimer - 1 }
    if pollDue s1 then pollExpiry s1 else s1

/-- One second on the listen, whose expiry waits for an enrolment transaction in flight (R163, R165). -/
def listenSecond (s : State) : State :=
  if s.loop.listen.running then
    let s1 := { s with loop.listen := { s.loop.listen with seconds := s.loop.listen.seconds - 1 } }
    if enrolInFlight s1 then s1 else expireIfDue s1
  else s

/-- One second of the Loop Master; in a second that ends both, the listen expires before a cycle begins (R157, R165,
log 21). -/
def loopSecond (s : State) : State := pollSecond (listenSecond s)

/-- DORMANT begins: the cycle stops at the end of the transaction in flight (R157), and a listen that runs sends nothing
more (R165). -/
def loopDormant (s : State) : State :=
  { s with loop.stopping := s.loop.inFlight.isSome, loop.listen.muted := s.loop.listen.running }

/-- The regime has changed (R157). -/
def loopRegime (before after : Regime) (s : State) : State :=
  match before, after with
  | _, .dormant => loopDormant s
  | .reserve, .mains => { s with loop.pollTimer := min s.loop.pollTimer 10 }
  | .dormant, .reserve => pollExpiry { s with loop.pollTimer := 0, loop.firstSinceDormant := true }
  | _, _ => s

/-- A pod record as it stands after a reset (R156). -/
def strippedPod (p : Pod) : Pod :=
  { address := p.address, serial := p.serial, policy := p.policy, acknowledged := p.acknowledged }

end Sys2Proof.Machine
end

