-- ==== Sys2Proof/Machine/PowerOps.lean ====
section
/-! DEFINITION. The Supply Monitor's operations (R170 to R174): a change of regime and what it is reported to, the mains
confirmation, and the dormant sequence. -/

namespace Sys2Proof.Machine

/-- The receiver drops what it was collecting (R182). -/
def dropFrame (s : State) : State := { s with link.rx := .hunt, link.collected := [] }

/-- The run takes the regime: POWER joins its causes where MAINS is left, and leaves them where MAINS is reached (R80,
R81). -/
def runRegime (before after : Regime) (s : State) : State :=
  if before = .mains then addPower s else if after = .mains then removePower s else s

/-- The regime changes: POWER_CHANGE, and the reports to the Valve Drive, the Drain Queue, the Run Controller, the Loop
Master and the Service Link (R171). -/
def setRegime (after : Regime) (cause : PowerCause) (s : State) : State :=
  let before := s.supply.regime
  let s1 := raiseEvent (.powerChange before after cause s.analog.batt.lastGood)
    { s with supply.regime := after }
  let s2 := loopRegime before after (runRegime before after (push .regrant (push .arbitrate s1)))
  if after = .dormant then dropFrame s2 else s2

/-- DORMANT is removed from the close-reason set (R171). -/
def removeDormant (s : State) : State := changeReasons { s.leak.closeSet with dormant := false } s

/-- The mains confirmation count has reached 5 (R171). -/
def confirmDue (s : State) : Bool := s.supply.regime == .reserve && s.supply.mainsPresent && 5 ≤ s.supply.confirm

/-- The regime becomes MAINS, and DORMANT leaves the set in the same action (R171). -/
def mainsConfirm (s : State) : State := removeDormant (setRegime .mains .mainsConfirmed s)

/-- The regime becomes DORMANT (R174). -/
def enterDormant (s : State) : State :=
  writeTrigger (setRegime .dormant .batteryLow { s with supply.closeWait := none })

/-- V_SHUT's report ends the dormant close wait: AT(CLOSED), or FAULT (R173). -/
def closeAnswered (s : State) : Bool := isAt .shut posClosed s || isFault .shut s

/-- The dormant close wait is at one of its ends (R173). -/
def dormantDue (s : State) : Bool :=
  s.supply.closeWait.any (fun n => n == 0 || closeAnswered s) && s.supply.regime == .reserve

/-- The dormant close wait has run out (R173). -/
def waitOver (s : State) : Bool := s.supply.closeWait == some 0 && s.supply.regime == .reserve

/-- The dormant close wait begins (R173). -/
def startCloseWait (s : State) : State :=
  let s1 := changeReasons { s.leak.closeSet with dormant := true } s
  let s2 := { s1 with supply.closeWait := some Config.closeWaitSeconds }
  if dormantDue s2 then enterDormant s2 else s2

/-- A BATT reading is tested: RESERVE, mains absent, no dormant close wait (R172). -/
def battTested (s : State) : Bool :=
  s.supply.regime == .reserve && !s.supply.mainsPresent && s.supply.closeWait == none

/-- The battery low count has reached 10 (R172). -/
def lowDue (s : State) : Bool := battTested s && 10 ≤ s.supply.lowCount

/-- The dormant sequence begins (R172). -/
def dormantSequence (s : State) : State :=
  let s1 := { s with supply.lowCount := 0 }
  match s.settings.dormantAction with
  | .close => startCloseWait s1
  | .hold => enterDormant s1

/-- The reading counts as low: an invalid channel, or a value below the threshold (R172). -/
def battLow (s : State) : Bool :=
  !s.analog.batt.valid || s.analog.batt.lastGood.any (fun v => v < s.settings.dormantThreshold)

/-- A reading of the BATT channel reaches the Supply Monitor (R172). -/
def battReading (s : State) : State :=
  if battTested s then
    let s1 := { s with supply.lowCount := if battLow s then satAdd 10 s.supply.lowCount 1 else 0 }
    if lowDue s1 then dormantSequence s1 else s1
  else { s with supply.lowCount := 0 }

/-- Mains is lost (R171). -/
def mainsLost (s : State) : State :=
  let s1 := { s with supply.confirm := 0 }
  if s.supply.regime = .mains then setRegime .reserve .mainsLost s1 else s1

/-- Mains is sensed present (R171, R173). -/
def mainsReturned (s : State) : State :=
  let s1 := { s with supply.confirm := 0, supply.closeWait := none }
  if s.supply.regime = .dormant then setRegime .reserve .mainsReturned s1 else s1

/-- The mains sense input has changed (R171). -/
def mainsChange (now : Bool) (s : State) : State :=
  let s1 := { s with supply.mainsPresent := now }
  if now then mainsReturned s1 else mainsLost s1

/-- A second with mains present in RESERVE (R171). -/
def confirmSecond (s : State) : State :=
  if s.supply.regime = .reserve ∧ s.supply.mainsPresent then
    let s1 := { s with supply.confirm := satAdd 5 s.supply.confirm 1 }
    if confirmDue s1 then mainsConfirm s1 else s1
  else s

/-- A second on the dormant close wait (R173). -/
def waitSecond (s : State) : State :=
  match s.supply.closeWait with
  | none => s
  | some n =>
    let s1 := { s with supply.closeWait := some (n - 1) }
    if waitOver s1 then enterDormant s1 else s1

/-- One second of the Supply Monitor. -/
def supplySecond (s : State) : State := waitSecond (confirmSecond s)

/-- V_SHUT has changed its status (R173). -/
def supplyShutReport (s : State) : State := if dormantDue s then enterDormant s else s

/-- The Supply Monitor's part of a restart (R170). -/
def supplyRestart (s : State) : State :=
  { s with supply :=
    { regime := .reserve, mainsPin := s.supply.mainsPin, mainsPresent := s.supply.mainsPin
      confirm := 0, lowCount := 0, closeWait := none } }

end Sys2Proof.Machine
end

