-- ==== Sys2Proof/Machine/StoreOps.lean ====
section
/-! DEFINITION. The Snapshot Store and the resets (R175 to R180): the contents of the image, the write, a reset taking
effect, and the restart with the restoration of a run. -/

namespace Sys2Proof.Machine

/-! ## The image and the write (R175, R176) -/

/-- A tank record as the image holds it, without load residue (R21, R175) and with the deviation count at 0 (R37). -/
def storedTank (r : TankRec) : TankRec := { r with residue := 0, deviation := 0 }

/-- The contents of the image, taken from the state of the part at one moment (R175). -/
def capture (s : State) : Image where
  settings := s.settings
  quietMap := s.time.quietMap
  dayAccum := s.meter.dayAccum
  days := s.meter.days
  tankA := storedTank s.bed.tankA
  tankB := storedTank s.bed.tankB
  factor := s.bed.factor
  brineVolume := s.brine.volume
  brineAge := s.brine.age
  saltModel := s.brine.model
  comparison := s.brine.comparison
  bridge := s.brine.bridge
  regens := s.brine.regens
  modelDrop := s.brine.modelDrop
  anchor := s.brine.anchor
  levelDrop := s.brine.levelDrop
  ring := s.brine.ring
  accum := s.brine.accum
  table := s.run.table
  softEntry := s.run.softEntry
  filterEntry := s.run.filterEntry
  copy := s.run.copy
  holds := s.run.holds
  entries := s.queue.entries
  joins := s.queue.joins
  deferA := s.queue.deferA
  deferB := s.queue.deferB
  deferF := s.queue.deferF
  filterVolume := s.filter.volume
  filterDays := s.filter.days
  trigger := s.filter.trigger
  away := s.leak.away
  fixtures := s.leak.fixtures
  closeSet := s.leak.closeSet
  acknowledged := s.leak.acknowledged
  record := s.leak.record
  pods := s.loop.pods.map strippedPod
  mask := s.link.mask

/-- A write trigger reaches the Store: a write begins, or a further one is flagged (R176). -/
def beginWrite (s : State) : State :=
  match s.store.writing with
  | some _ => { s with store.further := true }
  | none => { s with store.writing := some (capture s) }

/-- The triggers of an action fall into one write, taken at its end (R176, log 16). -/
def settleWrites (s : State) : State :=
  if s.writeDue then beginWrite { s with writeDue := false } else s

/-! ## A reset takes effect (R176, R177, R180) -/

/-- The part is in reset: the motor stops, a reply is cut short, the lines are deasserted (R129, R152, R184, R192). A
LINK reset that is still due is dropped with the reply it waited for (log 48). -/
def takeReset (call : ResetCall) (s : State) : State :=
  { s with
    resets := { s.resets with inReset := some call, held := none, linkDue := none }
    store.writing := none, store.further := false
    valves.grant := none, link.reply := none, link.state := .listening
    link.attn := false, alarm := false }

/-- A reset is held until the write in progress ends (R176). One already held stands and the later one is dropped, a
FACTORY one with its factory image too (log 46); a LINK reset that is due is dropped (log 48). -/
def holdReset (call : ResetCall) (s : State) : State :=
  match s.resets.held with
  | some _ => s
  | none => { s with resets := { s.resets with held := some call, linkDue := none } }

/-- A SUPPLY or BROWNOUT reset takes effect at once and makes the image of a write in progress invalid (R176). -/
def coldReset (kind : ResetKind) (s : State) : State :=
  let s1 := if s.store.writing.isSome then { s with store.image := none } else s
  takeReset { kind := kind } s1

/-- A PIN reset, or a LINK reset of option NORMAL, waits for the end of a write in progress (R176). -/
def warmReset (call : ResetCall) (s : State) : State :=
  if s.store.writing.isSome then holdReset call s else takeReset call s

/-- A LINK reset of option FACTORY first has the factory image written (R180). -/
def factoryReset (s : State) : State :=
  let s1 := holdReset { kind := .link, option := .factory } s
  if s.store.writing.isSome then s1 else { s1 with store.writing := some factoryImage }

/-- A LINK reset begins (R180). -/
def linkResetOf (option : ResetOption) (s : State) : State :=
  match option with
  | .normal => warmReset { kind := .link } s
  | .factory => factoryReset s

/-- A write has ended with these contents while a reset is held: the factory image of a FACTORY reset is still to be
written, or the reset takes effect (R176, R180). -/
def heldWriteEnd (call : ResetCall) (img : Image) (s : State) : State :=
  if call.option = .factory ∧ img ≠ factoryImage then
    { s with store.writing := some factoryImage, store.further := false }
  else takeReset call s

/-- A write ends (R176). -/
def writeEnds (img : Image) (s : State) : State :=
  let s1 := { s with store.image := some img, store.writing := none }
  match s.resets.held with
  | some call => heldWriteEnd call img s1
  | none =>
    if s.store.further then { s1 with store.further := false, store.writing := some (capture s1) } else s1

/-- A reset asserted while the part is in reset replaces the kind, unless the clock is already lost (log 8). -/
def resetAgain (old : ResetCall) (kind : ResetKind) (s : State) : State :=
  if old.kind = .supply then s else { s with resets := { s.resets with inReset := some { kind := kind } } }

/-! ## Restart (R178, R179) -/

/-- The Brine Monitor's part of the image (R62). -/
def restoredBrine (img : Image) : BrineMonitor :=
  { model := img.saltModel, comparison := img.comparison, bridge := img.bridge, regens := img.regens
    modelDrop := img.modelDrop, anchor := img.anchor, levelDrop := img.levelDrop
    volume := img.brineVolume, age := img.brineAge, ring := img.ring, accum := img.accum }

/-- Steps 1 to 3 of R178: the event set empty, the image restored, everything else at its reset value. What outlives a
reset is kept: the clock (R2), the image, the pins, the valve senses. -/
def restored (img : Image) (clock : TimeOfWeek) (s : State) : State where
  pending := s.pending
  settings := img.settings
  time := { clock := clock, quietMap := img.quietMap }
  meter := { dayAccum := img.dayAccum, days := img.days }
  bed := { tankA := img.tankA, tankB := img.tankB, factor := img.factor }
  brine := restoredBrine img
  run := { table := img.table, softEntry := img.softEntry, filterEntry := img.filterEntry, copy := img.copy
           holds := img.holds }
  queue := { entries := img.entries, joins := img.joins, deferA := img.deferA, deferB := img.deferB
             deferF := img.deferF }
  filter := { volume := img.filterVolume, days := img.filterDays, trigger := img.trigger }
  valves := { shut := { sense := s.valves.shut.sense }, flt := { sense := s.valves.flt.sense }
              soft := { sense := s.valves.soft.sense } }
  leak := { fixtures := img.fixtures, closeSet := img.closeSet, acknowledged := img.acknowledged
            record := img.record, away := img.away }
  loop := { pods := img.pods.map strippedPod }
  supply := s.supply
  store := { image := s.store.image }
  link := { mask := img.mask }
  freeSeed := s.freeSeed

/-- The context of a run restored under way (R179). -/
def resumedCtx (c : RunCtx) : RunCtx :=
  { c with
    state := .suspended, susPower := true, susShutoff := true, parked := true, posReached := false
    powerSuspended := 0, awaited := none, startCounter := 0, restarts := c.restarts + 1, restored := true }

/-- A run in the step-entry copy is restored or aborted; the answer says whether it was resumed (R179). A run restored
in FINISHING neither refreshes the copy nor triggers a write (log 47). -/
def restoreRun (s : State) : Bool × State :=
  match s.run.copy with
  | none => (false, s)
  | some c =>
    let s1 := { s with queue.grant := some c.unit }
    if c.state = .finishing then (true, setCtx { c with startCounter := 0 } s1)
    else if 3 ≤ c.restarts + 1 then
      (false, abortRun .restartLimit .none true (setCtx { c with restarts := 3 } s1))
    else (true, saveCopy (setCtx (resumedCtx c) s1))

/-- A re-evaluation of the arbiter. -/
def isArbitrate : Signal → Bool
  | .arbitrate => true
  | _ => false

/-- The re-issued moves wait for their grant, which is a step of its own after a restart (R125, log 7). -/
def awaitGrant (s : State) : State := { s with signals := s.signals.filter (fun g => !isArbitrate g) }

/-- The reset record of a restart (R177). -/
def recordOf (call : ResetCall) (restoredImage resumed : Bool) : ResetRecord :=
  { kind := call.kind, option := call.option, restored := restoredImage, resumed := resumed }

/-- Step 7 of R178: RESET, SNAPSHOT_LOST, CLOCK_UNSET. -/
def announce (r : ResetRecord) (s : State) : State :=
  let s1 := raiseEvent (.reset r.kind r.option r.restored r.resumed) { s with resets := { record := r } }
  let s2 := if r.restored then s1 else raiseEvent .snapshotLost s1
  if r.kind = .supply then raiseEvent .clockUnset s2 else s2

/-- The standing targets are re-issued, V_SHUT first (R125, step 6 of R178). -/
def reissueAll (s : State) : State := reissue .soft (reissue .flt (reissue .shut s))

/-- The restart, one action (R178). The poll timer stands at 0 after it, and the first cycle begins at the timer's
expiry or the next second (R157, log 43). -/
def restartPart (call : ResetCall) (s : State) : State :=
  let clock := if call.kind = .supply then {} else s.time.clock
  let s1 := supplyRestart (leakRestart (restored (s.store.image.getD factoryImage) clock s))
  let run := restoreRun s1
  let s2 := filterRestart (evalStage (bedRestart run.2))
  awaitGrant (announce (recordOf call s.store.image.isSome run.1) (reissueAll s2))

end Sys2Proof.Machine
end

