-- ==== Sys2Proof/Machine/SignalOps.lean ====
section
/-! DEFINITION. How an action runs to its end: the reports and answers that set out within it are handled in the order
in which they set out (R114, R116; log 28), triggers fall into one write (R176), the lines follow their conditions
(R152, R192). And the frame of every request: link state, reply, status (R184, R185). -/

namespace Sys2Proof.Machine

/-! ## Reports and answers (R114, R116) -/

/-- A valve has left FAULT: the holds of its units are released (R85), the changeover is tested again (R33), the grant
is re-evaluated (R95). -/
def faultCleared (v : Valve) (s : State) : State :=
  let s1 := releaseValveHolds v s
  let s2 := if v = .soft then changeoverTest s1 else s1
  push .regrant s2

/-- The readers of V_SHUT beside the Run Controller (R114). -/
def shutReaders (before after : ValveStatus) (s : State) : State :=
  supplyShutReport (leakShutReport before after (push .regrant s))

/-- A change of a valve's status reaches the blocks that read it, the Run Controller first (R114, log 4). -/
def statusReport (v : Valve) (before after : ValveStatus) (s : State) : State :=
  let s1 := runStatusReport v before after s
  let s2 := if before = .fault then faultCleared v s1 else s1
  match v with
  | .shut => shutReaders before after s2
  | .flt => filterStatusReport s2
  | .soft => s2

/-- An answer reaches its requester; the shutoff control and the Filter Monitor act on none (R116, R146, R125). -/
def answerReport (v : Valve) (req : MoveReq) (res : Answer) (s : State) : State :=
  match req.requester with
  | .runController => runAnswer v req res s
  | .bedAccounting => bedAnswer req res s
  | .shutoffControl => s
  | .filterMonitor => s

/-- One report, answer or re-evaluation is handled. -/
def handle (sig : Signal) (s : State) : State :=
  match sig with
  | .status v before after => statusReport v before after s
  | .answer v req res => answerReport v req res s
  | .arbitrate => arbitrate s
  | .regrant => reevaluateGrant s

/-- What has set out is handled in order, with everything that sets out meanwhile; a bound keeps this structural, and
nothing is left under way when it is met (log 28). -/
def deliverFrom : Nat → State → State
  | 0, s => { s with signals := [] }
  | n + 1, s =>
    match s.signals with
    | [] => s
    | sig :: rest => deliverFrom n (handle sig { s with signals := rest })

/-- Everything that has set out is handled (log 28). -/
def deliver (s : State) : State := deliverFrom 256 s

/-! ## The end of an action -/

/-- The ALARM and ATTN lines take the value their conditions give (R152, R192). -/
def refreshLines (s : State) : State := { s with alarm := alarmLine s, link.attn := attnLine s }

/-- The end of an action: the follow-ups, the write, the lines. -/
def finish (s : State) : State := refreshLines (settleWrites (deliver s))

/-- The part is held in reset (R177). -/
def held (s : State) : Bool := s.resets.inReset.isSome

/-- An action of a part that is not held in reset. -/
def running (f : State → State) (s : State) : State := if held s then s else finish (f s)

/-- An action that begins when its condition stands, and otherwise changes nothing (log 1). -/
def whenDue (due : State → Bool) (f : State → State) (s : State) : State :=
  running (fun st => if due st then f st else st) s

/-- An action on what its condition finds, and otherwise nothing (log 1). -/
def whenFound {α : Type} (due : State → Option α) (f : α → State → State) (s : State) : State :=
  running (fun st => match due st with
    | some x => f x st
    | none => st) s

/-! ## Requests and replies (R182 to R185) -/

/-- A reply before it is framed: its status, and its record as the state gives it that the action leaves; it stands
empty unless the status is OK or CLAMPED (R185). -/
structure Reply where
  status : Status
  record : State → List Byte

/-- What a message does: its checks, its effect, its reply (R185). -/
abbrev Effect := State → Reply × State

/-- A refusal carries the status alone (R185). -/
def refuse (st : Status) (s : State) : Reply × State := (⟨st, fun _ => []⟩, s)

/-- A reply of status OK with its record. -/
def replyOk (record : State → List Byte) (s : State) : Reply × State := (⟨.ok, record⟩, s)

/-- A message that only reads (R185). -/
def query (record : State → List Byte) : Effect := replyOk record

/-- OK, or CLAMPED when a value was clamped (R186). -/
def clampedStatus (clamped : Bool) : Status := if clamped then .clamped else .ok

/-- The receiver is in HUNT after a complete frame (R182). -/
def frameTaken (s : State) : State := { s with link.rx := .hunt, link.collected := [] }

/-- The link begins to send a reply (R184). -/
def beginReply (frame : List Byte) (s : State) : State :=
  { s with link.reply := some frame, link.state := .answering }

/-- A frame completes while the link is ANSWERING: it is discarded and counted as an overrun (R184). -/
def overrun (s : State) : State :=
  frameTaken { s with link.overruns := satAdd Config.max16 s.link.overruns 1 }

/-- A framing error is counted and the receiver returns to HUNT (R183). -/
def framingError (s : State) : State :=
  frameTaken { s with link.framingErrors := satAdd Config.max16 s.link.framingErrors 1 }

/-- The link takes no bytes: the part is in reset, or the regime is DORMANT (R182). -/
def linkDeaf (s : State) : Bool := held s || s.supply.regime == .dormant

/-- The frame of a reply to a request, its record read from the state the action leaves (R185, R196). -/
def replyFrame (kind tag : Byte) (r : Reply) (s : State) : List Byte :=
  Link.frame kind tag (BitVec.ofNat 8 (statusCode r.status) :: r.record s)

/-- A request is taken: its checks and its effect, the follow-ups of the action, the reply from the state they leave
(R184, R185, log 9). -/
def answerWith (kind tag : Byte) (effect : Effect) (s : State) : State :=
  let out := effect (frameTaken s)
  let t := deliver out.2
  finish (beginReply (replyFrame kind tag out.1 t) t)

end Sys2Proof.Machine
end

