-- ==== Sys2Proof/Machine/Beds.lean ====
section
/-! DEFINITION. The commands of chapter 2: the completion of a changeover, the probe trip, and what the
messages of Bed Accounting do. -/

namespace Sys2Proof.Machine

/-- The completion of a changeover stands: it is open, and V_SOFT is AT its target (R34). -/
def changeoverDue (s : State) : Bool :=
  changeoverOpen s && isAt .soft (servicePos (servingTank s).other) s

/-- CHANGEOVER_COMPLETE (R34). -/
def execChangeoverComplete (s : State) : Host.Outcome State Fault Refusal :=
  .next (whenDue changeoverDue completeChangeover s)

/-- The tank whose deviation count has reached 3 (R37). -/
def trippedTank (s : State) : Option Tank :=
  if probeDue .a s then some .a else if probeDue .b s then some .b else none

/-- PROBE_TRIP (R38, R39). -/
def execProbeTrip (s : State) : Host.Outcome State Fault Refusal := .next (whenFound trippedTank probeTrip s)

/-- A tank record with its probe enabled (R41). -/
def enabledProbe (r : TankRec) : TankRec :=
  { r with probeEnabled := true, deviation := 0, probeArmed := r.probeArmed || r.role == .inService }

/-- Either flag of the probe differs (R41). -/
def probeFlagsMoved (r r1 : TankRec) : Bool := r.probeEnabled != r1.probeEnabled || r.probeArmed != r1.probeArmed

/-- ENABLE_PROBE's effect (R41). -/
def enableProbeEffect (tank : Byte) (s : State) : Reply × State :=
  match readTank tank with
  | none => refuse .badValue s
  | some t =>
    let r1 := enabledProbe (tankRec t s)
    let s1 := setTank t r1 s
    replyOk (fun u => yesNo (tankRec t u).probeEnabled ++ yesNo (tankRec t u).probeArmed)
      (if probeFlagsMoved (tankRec t s) r1 then writeTrigger s1 else s1)

/-- The last regeneration sub-record (R21): outcome DONE 0 or ABORTED 1, then a reason byte, 0 under DONE (log 49). -/
def encLastRegen (l : LastRegen) : List Byte :=
  u16 l.credit ++ u32 l.salt ++ encTime l.endTime ++
    (match l.reason with
      | none => u8 0 ++ u8 0
      | some r => u8 1 ++ u8 (abortReasonCode r))

/-- A tank record (R21). -/
def encTank (r : TankRec) : List Byte :=
  u8 (roleCode r.role) ++ u16 r.credit ++ u16 r.remaining ++ u32 r.residue ++ u8 (urgencyCode r.urgency) ++
    yesNo r.probeEnabled ++ yesNo r.probeArmed ++ yesNo r.rinseIncomplete ++ u16 r.regenCount ++
    opt 13 encLastRegen r.lastRegen

/-- The record of GET_TANKS (R45). The HARD_WATER condition is carried as a yes-or-no byte, 1 for in force (log 11). -/
def tanksRecord (s : State) : List Byte :=
  encTank s.bed.tankA ++ encTank s.bed.tankB ++ u16 s.bed.factor ++ u16 s.bed.compensated ++ u16 s.bed.reserve ++
    u8 (clsCode (meteredClass (servingRec s).urgency)) ++ yesNo s.bed.hardWater ++ u32 (s.bed.hardVolume / 1000) ++
    yesNo s.bed.changePending ++ opt 1 (fun c => u8 (requestedCode c)) s.bed.changeClass

end Sys2Proof.Machine
end

