-- ==== Sys2Proof/Machine/Filtering.lean ====
section
/-! DEFINITION. The commands of chapter 6: the pressure trigger, and the record of GET_FILTER. -/

namespace Sys2Proof.Machine

/-- PRESSURE_TRIGGER (R108). -/
def execPressureTrigger (s : State) : Host.Outcome State Fault Refusal := .next (whenDue pressureDue latchPressure s)

/-- A pressure channel's last good value and valid flag (R112). -/
def encPressure (r : ChannelRec) : List Byte := opt 2 u16 r.lastGood ++ yesNo r.valid

/-- The record of GET_FILTER (R112). Whether a trigger stands is judged by the figures and limits held as the reply is
formed, before the next sample tests them (log 56). -/
def filterRecord (s : State) : List Byte :=
  u8 (filterStateCode s.filter.state) ++ u32 (s.filter.volume / 1000) ++ u32 (s.filter.unfiltered / 1000) ++
    u16 s.filter.days ++ u8 s.filter.highCount ++ opt 1 (fun t => u8 (triggerCode t)) s.filter.trigger ++
    opt 2 u16 s.filter.lastDp ++ yesNo s.filter.trigger.isSome ++ yesNo (volumeStands s) ++ yesNo (dayStands s) ++
    u8 s.settings.filterVolumeLimit ++ u8 s.settings.filterDayLimit ++ u16 s.settings.dpLimit ++
    encPressure s.analog.pIn ++ encPressure s.analog.pOut

end Sys2Proof.Machine
end

