-- ==== Sys2Proof/Machine/Leaks.lean ====
section
/-! DEFINITION. The commands of chapter 8: the moments of the Leak Monitor, and what its messages do. -/

namespace Sys2Proof.Machine

/-- EPISODE_END (R132). -/
def execEpisodeEnd (s : State) : Host.Outcome State Fault Refusal := .next (whenDue episodeDue endEpisode s)

/-- FIXTURE_MATCH (R137). -/
def execFixtureMatch (s : State) : Host.Outcome State Fault Refusal := .next (whenFound matchDue fixtureMatch s)

/-- LIMIT_TRIP (R138). -/
def execLimitTrip (s : State) : Host.Outcome State Fault Refusal :=
  .next (whenFound limitDue (fun cause => trip cause none) s)

/-- BURST_TRIP (R140). -/
def execBurstTrip (s : State) : Host.Outcome State Fault Refusal := .next (whenDue burstDue (trip .burst none) s)

/-- LEAK_ISOLATED (R144). -/
def execLeakIsolated (s : State) : Host.Outcome State Fault Refusal := .next (whenDue isolateDue isolate s)

/-- PROBATION_END (R149). -/
def execProbationEnd (s : State) : Host.Outcome State Fault Refusal :=
  .next (whenDue probationEndDue endProbation s)

/-- PROBATION_TRIP (R149). -/
def execProbationTrip (s : State) : Host.Outcome State Fault Refusal :=
  .next (whenDue probationTripDue (trip .probation none) s)

/-- SHUTOFF_PASSING (R150). -/
def execShutoffPassing (s : State) : Host.Outcome State Fault Refusal := .next (whenDue passingDue raisePassing s)

/-- DRIP_SUSPECT (R151). -/
def execDripSuspect (s : State) : Host.Outcome State Fault Refusal := .next (whenDue dripDue raiseDrip s)

/-! ## Away mode, extension, acknowledgement (R133, R139, R145) -/

/-- Away mode is stored; a change chooses the class of an open episode again (R133). -/
def storeAway (on : Bool) (s : State) : State :=
  if s.leak.away = on then s else writeTrigger (rechooseClass { s with leak.away := on })

/-- The limit class of the open episode, as an optional field that is absent where none is open (R133, log 54). -/
def encLimitClass (s : State) : List Byte := opt 1 (fun e => u8 (limitClassCode e)) (s.leak.episode.map (·.cls))

/-- Away mode as carried (R130, R196). -/
def encAway (s : State) : List Byte := u8 (if s.leak.away then 0 else 1)

/-- SET_AWAY's effect (R133). -/
def setAwayEffect (onOrOff : Byte) (s : State) : Reply × State :=
  match readAway onOrOff with
  | none => refuse .badValue s
  | some b => replyOk (fun u => encAway u ++ encLimitClass u) (storeAway b s)

/-- The episode with both limits doubled, once (R139). -/
def doubled (e : Episode) : Episode :=
  { e with durationLimit := 2 * e.durationLimit, volumeLimit := 2 * e.volumeLimit, extended := true }

/-- EXTEND_EPISODE's effect (R139). -/
def extendEffect (s : State) : Reply × State :=
  match s.leak.episode with
  | none => refuse .state s
  | some e =>
    if e.extended then refuse .state s
    else replyOk (fun _ => u16 (doubled e).durationLimit ++ u16 (doubled e).volumeLimit)
      { s with leak.episode := some (doubled e) }

/-- The leak state is ISOLATING or ISOLATED. -/
def leakStands (s : State) : Bool := s.leak.state == .isolating || s.leak.state == .isolated

/-- The leak is acknowledged; an acknowledgement that stands already changes nothing (R145). -/
def acknowledge (s : State) : State :=
  if s.leak.acknowledged then s else writeTrigger { s with leak.acknowledged := true }

/-- ACK_LEAK's effect (R145). -/
def ackLeakEffect (s : State) : Reply × State :=
  if leakStands s then
    replyOk (fun u => u8 (leakStateCode u.leak.state) ++ yesNo u.leak.acknowledged ++ opt 16 encLeakRec u.leak.record)
      (acknowledge s)
  else refuse .state s

/-! ## The shutoff messages (R147, R148) -/

/-- SHUTOFF_CLOSE's effect (R147). -/
def shutoffCloseEffect (s : State) : Reply × State :=
  replyOk (fun u => encReasons u.leak.closeSet ++ encStatus (valveRec .shut u).status)
    (changeReasons { s.leak.closeSet with commanded := true } s)

/-- The first condition of R148 that holds, none when the request is taken. -/
def openBarred (s : State) : Option Status :=
  if s.leak.closeSet.leak && !s.leak.acknowledged then some .state
  else if s.leak.closeSet.leak && wetShutoffPod s then some .state
  else if s.leak.closeSet.dormant then some .power
  else if isFault .shut s then some .fault
  else none

/-- LEAK has been removed: the state becomes PROBATION with both counts 0 (R148). -/
def beginProbation (s : State) : State :=
  setLeakState .probation { s with leak.probation := 0, leak.high := 0 }

/-- COMMANDED and LEAK leave the close-reason set (R148). -/
def reopen (s : State) : State :=
  let s1 := changeReasons { s.leak.closeSet with leak := false, commanded := false } s
  if s.leak.closeSet.leak then beginProbation s1 else s1

/-- SHUTOFF_OPEN's effect (R148). -/
def shutoffOpenEffect (s : State) : Reply × State :=
  match openBarred s with
  | some st => refuse st s
  | none =>
    replyOk (fun u => encReasons u.leak.closeSet ++ u8 (leakStateCode u.leak.state) ++
      encStatus (valveRec .shut u).status) (reopen s)

/-! ## The fixture table (R134 to R136) -/

/-- A fixture id of the table. -/
def fixtureIdValid (id : Byte) : Bool := 1 ≤ id.toNat && id.toNat ≤ 16

/-- The lowest-numbered empty slot (R135). -/
def lowestEmptySlot (s : State) : Option Nat :=
  ((List.range 16).map (· + 1)).find? (fun n => (slotOf s.leak.fixtures n).isNone)

/-- The slot a PUT_FIXTURE uses: the one it names, or the lowest empty one for id 0 (R135). -/
def fixtureSlot (id : Byte) (s : State) : Option Nat := if id = 0 then lowestEmptySlot s else some id.toNat

/-- A fixture's values clamped into their ranges (R134, R135). -/
def clampFixture (f : Fixture) : Fixture :=
  { f with
    rateLow := min 3000 f.rateLow, rateHigh := min 3000 f.rateHigh
    maxMinutes := clampNat 1 1440 f.maxMinutes, maxLitres := clampNat 1 2000 f.maxLitres }

/-- A slot of the fixture table is stored: a write trigger, whatever the slot held (R134, log 41). -/
def storeFixture (n : Nat) (f : Option Fixture) (s : State) : State :=
  writeTrigger { s with leak.fixtures := setSlot s.leak.fixtures n f }

/-- PUT_FIXTURE's effect (R135). An away byte that names no value is refused first of all (log 26). -/
def putFixtureEffect (id : Byte) (fixture : Option Fixture) (s : State) : Reply × State :=
  match fixture with
  | none => refuse .badValue s
  | some f =>
    if 16 < id.toNat ∨ f.rateHigh < f.rateLow then refuse .badValue s
    else match fixtureSlot id s with
      | none => refuse .full s
      | some n =>
        (⟨clampedStatus (clampFixture f != f), fun _ => u8 n ++ encFixture (clampFixture f)⟩,
          storeFixture n (some (clampFixture f)) s)

/-- The record of a PUT_FIXTURE as carried; none where the away byte is no value (log 26). -/
def readFixture (low high minutes litres : BitVec 16) (hours : BitVec 24) (away : Byte) : Option Fixture :=
  (readYesNo away).map (fun b => ⟨low.toNat, high.toNat, minutes.toNat, litres.toNat, hours, b⟩)

/-- The fixture an id names; an id outside 1 to 16 or an empty slot is refused (R136). -/
def onFixture (id : Byte) (effect : Fixture → State → Reply × State) (s : State) : Reply × State :=
  if fixtureIdValid id then
    match slotOf s.leak.fixtures id.toNat with
    | some f => effect f s
    | none => refuse .notFound s
  else refuse .badValue s

/-- DROP_FIXTURE's effect (R136). -/
def dropFixtureEffect (id : Byte) (s : State) : Reply × State :=
  onFixture id (fun _ st => replyOk (fun _ => []) (storeFixture id.toNat none st)) s

/-- GET_FIXTURE's effect (R136). -/
def getFixtureEffect (id : Byte) (s : State) : Reply × State := onFixture id (fun f => query (fun _ => encFixture f)) s

end Sys2Proof.Machine
end

