-- ==== Sys2Proof/Machine/SettingOps.lean ====
section
/-! DEFINITION. The settings message (R186, R187): clamping, and the effect each owner gives for a stored change. -/

namespace Sys2Proof.Machine

/-- A value outside its range takes the nearer limit (R186). -/
def clampParam (p : Param) (v : Int) : Int := clampInt (paramRange p).1 (paramRange p).2 v

/-- The dormant action names a thing and is never clamped (R187). -/
def unknownAction (p : Param) (v : Int) : Bool := p == .dormantAction && (v < 0 || 1 < v)

/-- The limits of this class have changed: an open episode of the class is chosen again (R133). -/
def classChanged (c : LimitClass) (s : State) : State :=
  if s.leak.episode.any (fun e => e.cls == c) then rechooseClass s else s

/-- The owner's effect of a stored change (R187): R8, R24, R29, R47, R130, R151; the other settings act where they are
next used. -/
def paramEffect (p : Param) (s : State) : State :=
  match p with
  | .supplyK => { s with meter.supplyResidue := 0 }
  | .drainK => { s with meter.drainResidue := 0 }
  | .hardness | .iron | .ironWeight => hardnessChanged s
  | .nominalCapacity => nominalChanged s
  | .minReserve | .assumedUse => recomputeReserve s
  | .depth | .crossSection | .bulkDensity => geometryChanged s
  | .emptyHeight | .lowDays | .lowMass => evalStage s
  | .activeDuration | .activeVolume => classChanged .active s
  | .quietDuration | .quietVolume => classChanged .quiet s
  | .awayDuration | .awayVolume => classChanged .away s
  | .dripGap => dripGapChanged s
  | .refillRate | .nominalDrain | .probeFraction | .tripDelta | .efficiency | .fullDwell | .bridgeFactor
  | .saltOutFactor | .reminderInterval | .holdThreshold | .holdBudget | .powerLimit | .cancelDeferral
  | .filterVolumeLimit | .filterDayLimit | .dpLimit | .trickle | .burstRate | .probationRate | .freezeThreshold
  | .dormantThreshold | .dormantAction => s

/-- A value is stored: a stored change has its effect and is a write trigger; the value already held changes nothing
(R187). -/
def changeParam (p : Param) (v : Int) (s : State) : State :=
  if settingValue p s.settings = v then s else writeTrigger (paramEffect p (storeParam p v s))

/-- Id and value, four bytes signed (R187, R196). -/
def encParam (id : Byte) (v : Int) : List Byte := id :: i32 v

/-- SET_PARAM (R187). -/
def setParamEffect (id : Byte) (value : BitVec 32) (s : State) : Reply × State :=
  match paramOfId id with
  | none => refuse .badValue s
  | some p =>
    if unknownAction p value.toInt then refuse .badValue s
    else
      let v := clampParam p value.toInt
      (⟨clampedStatus (v != value.toInt), fun _ => encParam id v⟩, changeParam p v s)

/-- GET_PARAM (R187). -/
def getParamEffect (id : Byte) (s : State) : Reply × State :=
  match paramOfId id with
  | none => refuse .badValue s
  | some p => query (fun u => encParam id (settingValue p u.settings)) s

end Sys2Proof.Machine
end

