-- ==== Sys2Proof/Machine/Linking.lean ====
section
/-! DEFINITION. Chapter 11: a gap, an overrun and the end of a reply, and what the messages of the events, the mask,
identity and status do. -/

namespace Sys2Proof.Machine

/-! ## The receiver and the link (R183, R184) -/

/-- RECEIVE_GAP_TIMEOUT (R183). -/
def execReceiveGapTimeout (s : State) : Host.Outcome State Fault Refusal :=
  .next (if linkDeaf s then s else match s.link.rx with
    | .collecting => framingError s
    | .hunt => s)

/-- FRAME_OVERRUN (R184). -/
def execFrameOverrun (s : State) : Host.Outcome State Fault Refusal :=
  .next (if linkDeaf s then s else match s.link.state with
    | .answering => overrun s
    | .listening => s)

/-- REPLY_SENT (R184). -/
def execReplySent (s : State) : Host.Outcome State Fault Refusal :=
  .next (if held s then s else { s with link.state := .listening, link.reply := none })

/-! ## Events and the mask (R189 to R191) -/

/-- The reply of events: the more flag, the number, the entries (R196). -/
def encEvents (more : Bool) (l : List PendingEvent) : List Byte :=
  yesNo more ++ u8 l.length ++ l.flatMap encEvent

/-- The room for entries after the three leading bytes (R189). -/
def eventRoom : Nat := 93

/-- GET_EVENTS' effect (R189). -/
def getEventsEffect (s : State) : Reply × State :=
  let n := fitting eventRoom s.link.events
  replyOk (fun _ => encEvents (n < s.link.events.length) (s.link.events.take n))
    { s with link.events := s.link.events.drop n }

/-- The record of PEEK_EVENTS (R190). -/
def peekRecord (start : Byte) (s : State) : List Byte :=
  let l := s.link.events.filter (fun p => start.toNat ≤ eventCode p.event)
  encEvents (fitting eventRoom l < l.length) (l.take (fitting eventRoom l))

/-- The mask as stored: the flags of 1Fh and 20h are clear (R191). -/
def storedMask (mask : BitVec 32) : BitVec 32 := mask &&& factoryMask

/-- SET_ATTENTION_MASK's effect (R191). -/
def setMaskEffect (mask : BitVec 32) (s : State) : Reply × State :=
  let m := storedMask mask
  replyOk (fun u => encMask u.link.mask) (if m = s.link.mask then s else writeTrigger { s with link.mask := m })

/-! ## Identity and status (R193, R194) -/

/-- The record of IDENTIFY (R193). -/
def identityRecord (s : State) : List Byte :=
  [0x42, 3, 1, 1, 96] ++ encResetRecord s.resets.record ++ u32 s.time.counter

/-- The CLOCK section: the time with its flag, the hour of week, its quiet status as a yes-or-no byte, 1 for quiet (log
11), the counter (R194). -/
def clockSection (s : State) : List Byte :=
  encTime s.time.clock ++ u8 (hourOfWeek s.time.clock) ++ yesNo (quietNow s) ++ u32 s.time.counter

/-- A channel in the CHANNELS section (R20). -/
def encChannel (r : ChannelRec) : List Byte := yesNo r.valid ++ u8 r.saturated ++ opt 2 u16 r.lastGood

/-- The CHANNELS section, in the order of R19 (R194). -/
def channelSection (s : State) : List Byte :=
  [Channel.pIn, .pOut, .probeA, .probeB, .batt, .level].flatMap (fun c => encChannel (channelRec c s))

/-- A pending request as reported (R128). -/
def encMoveReq (r : MoveReq) : List Byte := u8 r.target ++ u8 (moveClassCode r.cls) ++ u8 (requesterCode r.requester)

/-- A valve as reported (R128). -/
def encValve (r : ValveRec) : List Byte :=
  encStatus r.status ++ opt 1 (fun d => u8 (dirCode d)) r.lastDir ++ opt 3 encMoveReq r.waiting

/-- The driver grant as reported (R128). -/
def encGrant (g : Grant) : List Byte :=
  u8 (valveCode g.valve) ++ u8 g.target ++ u8 (moveClassCode g.cls) ++ u8 (movePhaseCode g.phase) ++
    yesNo g.retry ++ yesNo g.req.isSome

/-- The VALVES section (R128, R194). -/
def valveSection (s : State) : List Byte :=
  [Valve.shut, .flt, .soft].flatMap (fun v => encValve (valveRec v s)) ++ opt 6 encGrant s.valves.grant ++
    u8 (filterStateCode s.filter.state)

/-- An episode as reported (R131, R154). -/
def encEpisode (e : Episode) : List Byte :=
  u32 e.startCounter ++ encTime e.startTime ++ u32 e.age ++ u32 e.volume ++ u16 e.peak ++ opt 2 u16 e.average ++
    opt 1 u8 e.fixture ++ u8 (limitClassCode e.cls) ++ u16 e.durationLimit ++ u16 e.volumeLimit ++
    yesNo e.prewarned ++ yesNo e.extended ++ u8 e.still

/-- The probation counts, present in PROBATION (R149, R154). -/
def encProbation (n : Nat) (s : State) : List Byte := opt 1 u8 (if s.leak.state = .probation then some n else none)

/-- The LEAK section, in the order of R154. -/
def leakSection (s : State) : List Byte :=
  u8 (leakStateCode s.leak.state) ++ yesNo s.leak.acknowledged ++ opt 16 encLeakRec s.leak.record ++
    encReasons s.leak.closeSet ++ opt 32 encEpisode s.leak.episode ++ opt 1 u8 s.leak.burst ++
    encProbation s.leak.probation s ++ encProbation s.leak.high s ++ u8 s.leak.passing ++ yesNo s.leak.passingFlag ++
    u32 s.leak.drip ++ u16 s.leak.quietRun ++ u16 s.leak.longestRun ++ u8 (if s.leak.away then 0 else 1) ++
    yesNo s.alarm

/-- The POWER section (R181). -/
def powerSection (s : State) : List Byte :=
  u8 (regimeCode s.supply.regime) ++ yesNo s.supply.mainsPresent ++ u8 s.supply.confirm ++ u8 s.supply.lowCount ++
    opt 1 u8 s.supply.closeWait ++ u16 s.settings.dormantThreshold ++
    u8 (match s.settings.dormantAction with
      | .close => 0
      | .hold => 1) ++
    u8 (if s.store.writing.isSome then 1 else 0) ++ yesNo s.store.further ++ encResetRecord s.resets.record

/-- The LINK section (R194). -/
def linkSection (s : State) : List Byte :=
  u16 s.link.framingErrors ++ u16 s.link.overruns ++ encMask s.link.mask ++ u8 s.link.events.length ++ yesNo s.link.attn

/-- The section a code names; none above 5 (R194). -/
def statusSection (code : Byte) (s : State) : Option (List Byte) :=
  match code.toNat with
  | 0 => some (clockSection s)
  | 1 => some (channelSection s)
  | 2 => some (valveSection s)
  | 3 => some (leakSection s)
  | 4 => some (powerSection s)
  | 5 => some (linkSection s)
  | _ => none

/-- GET_STATUS' effect (R194). -/
def getStatusEffect (code : Byte) (s : State) : Reply × State :=
  if (statusSection code s).isSome then query (fun u => (statusSection code u).getD []) s else refuse .badValue s

end Sys2Proof.Machine
end

