-- ==== Sys2Proof/Machine/Looping.lean ====
section
/-! DEFINITION. The commands of chapter 9: the timers, the ends of the loop's transactions, and what the messages of the
Loop Master do. -/

namespace Sys2Proof.Machine

/-- POLL_TIMER_EXPIRY (R157). -/
def execPollTimerExpiry (s : State) : Host.Outcome State Fault Refusal := .next (whenDue pollDue pollExpiry s)

/-- The address of the POLL in flight. -/
def pollFlight (s : State) : Option Nat :=
  match s.loop.inFlight with
  | some (.poll a) => some a
  | _ => none

/-- POLL_END (R159 to R161). -/
def execPollEnd (o : PollOutcome) (s : State) : Host.Outcome State Fault Refusal :=
  .next (whenFound pollFlight (fun a st => nextTransaction (setFlight none (pollOutcome a o st))) s)

/-- POD_SILENT (R159). -/
def execPodSilent (s : State) : Host.Outcome State Fault Refusal :=
  .next (whenFound (fun st => st.loop.pods.find? silentDue) podSilent s)

/-- The enrolment DISCOVER in flight. -/
def discoverFlight (s : State) : Bool := s.loop.inFlight == some .enrolDiscover

/-- ENROL_DISCOVER_END (R164). -/
def execEnrolDiscoverEnd (serial : Option Nat) (s : State) : Host.Outcome State Fault Refusal :=
  .next (whenDue discoverFlight (enrolDiscoverEnd serial) s)

/-- The enrolment ASSIGN in flight. -/
def assignFlight (s : State) : Option (Offer × Bool) :=
  match s.loop.inFlight with
  | some (.enrolAssign o known) => some (o, known)
  | _ => none

/-- ENROL_ASSIGN_END (R164, R165). -/
def execEnrolAssignEnd (confirmed : Option Nat) (s : State) : Host.Outcome State Fault Refusal :=
  .next (whenFound assignFlight (fun p => enrolAssignEnd p.1 p.2 confirmed) s)

/-- The listen's expiry stands, with no enrolment transaction in flight (R165). -/
def listenOver (s : State) : Bool := listenDue s && !enrolInFlight s

/-- LISTEN_EXPIRY (R165). -/
def execListenExpiry (s : State) : Host.Outcome State Fault Refusal := .next (whenDue listenOver listenExpire s)

/-- The recovery DISCOVER in flight. -/
def recoveryFlight (s : State) : Bool := s.loop.inFlight == some .recoveryDiscover

/-- RECOVERY_DISCOVER_END (R166). -/
def execRecoveryDiscoverEnd (serial : Option Nat) (s : State) : Host.Outcome State Fault Refusal :=
  .next (whenDue recoveryFlight (recoveryDiscoverEnd serial) s)

/-- The recovery ASSIGN in flight. -/
def recoveryAssignFlight (s : State) : Bool :=
  match s.loop.inFlight with
  | some (.recoveryAssign _) => true
  | _ => false

/-- RECOVERY_ASSIGN_END: whatever the CONFIRM, the table is unchanged (R166). -/
def execRecoveryAssignEnd (_confirmed : Option Nat) (s : State) : Host.Outcome State Fault Refusal :=
  .next (whenDue recoveryAssignFlight (fun st => nextTransaction (setFlight none st)) s)

/-- The release whose ASSIGN is in flight. -/
def releaseFlight (s : State) : Option Offer :=
  match s.loop.inFlight with
  | some (.release of) => some of
  | _ => none

/-- RELEASE_ASSIGN_END (R167). -/
def execReleaseAssignEnd (confirmed : Option Nat) (s : State) : Host.Outcome State Fault Refusal :=
  .next (whenFound releaseFlight (fun of => releaseAssignEnd of confirmed) s)

/-! ## Messages (R162, R163, R167 to R169) -/

/-- ENROL_POD's listen (R163). -/
def openListen (p : Policy) (s : State) : State :=
  { s with loop.listen := { running := true, policy := p, seconds := Config.listenSeconds, candidate := none } }

/-- ENROL_POD's effect (R163). -/
def enrolEffect (policy : Byte) (s : State) : Reply × State :=
  match readPolicy policy with
  | none => refuse .badValue s
  | some p =>
    if s.loop.listen.running then refuse .busy s
    else if 24 ≤ s.loop.pods.length then refuse .full s
    else replyOk (fun u => encListen u.loop.listen) (openListen p s)

/-- A loop address, 1 to 63. -/
def addressValid (a : Byte) : Bool := 1 ≤ a.toNat && a.toNat ≤ 63

/-- The pod an address names; an address outside 1 to 63, or with no pod, is refused (R162, R167, R168). -/
def onPod (address : Byte) (effect : Pod → State → Reply × State) (s : State) : Reply × State :=
  if addressValid address then
    match podAt address.toNat s with
    | some p => effect p s
    | none => refuse .notFound s
  else refuse .badValue s

/-- RETIRE_POD's effect (R167). -/
def retirePodEffect (address : Byte) (s : State) : Reply × State :=
  onPod address (fun p st => replyOk (fun _ => u8 p.address ++ u32 p.serial) (retirePod p st)) s

/-- The reported state becomes the acknowledged one; a change is a write trigger (R162). -/
def acknowledgePod (p : Pod) (s : State) : State :=
  if p.acknowledged = p.reported then s else writeTrigger (setPod { p with acknowledged := p.reported } s)

/-- ACK_POD's effect (R162). -/
def ackPodEffect (address : Byte) (s : State) : Reply × State :=
  onPod address (fun p st => replyOk (fun _ => encPod { p with acknowledged := p.reported }) (acknowledgePod p st)) s

/-- A new policy is stored; a wet pod that comes to policy SHUTOFF is reported (R168). -/
def storePolicy (p : Pod) (policy : Policy) (s : State) : State :=
  if p.policy = policy then s
  else
    let s1 := writeTrigger (setPod { p with policy := policy } s)
    if policy = .shutoff ∧ p.reported = .wet then podWetReport p.address s1 else s1

/-- SET_POD_POLICY's effect (R168). -/
def setPolicyEffect (address policy : Byte) (s : State) : Reply × State :=
  match readPolicy policy with
  | none => refuse .badValue s
  | some pol => onPod address (fun p st => replyOk (fun _ => encPod { p with policy := pol }) (storePolicy p pol st)) s

/-! ## GET_POD (R169, R195) -/

/-- An outstanding release (R195). -/
def encRelease (r : Release) : List Byte := u32 r.serial ++ u8 r.address ++ u8 r.tries

/-- What the reply of start address 0 carries first (R195). -/
def podHead (s : State) : List Byte :=
  encListen s.loop.listen ++ u8 s.loop.releases.length ++
    (List.range 11).flatMap (fun k => opt 6 encRelease s.loop.releases[k]?) ++ u8 s.loop.pollTimer ++
    i8 s.settings.freezeThreshold

/-- The records from a start address on, as many as fit in this room, and the next address not returned (R195). -/
def podPage (room start : Nat) (s : State) : List Byte :=
  let from0 := s.loop.pods.filter (fun p => start ≤ p.address)
  (from0.take (room / 25)).flatMap encPod ++ u8 (((from0.drop (room / 25)).head?.map (·.address)).getD 0)

/-- The reply record of GET_POD with address 0: the payload of 96 bytes less the status and the next address is there
for the head and the records (R195). -/
def podTable (start : Byte) (s : State) : List Byte :=
  if start = 0 then podHead s ++ podPage (94 - (podHead s).length) 0 s else podPage 94 start.toNat s

/-- GET_POD's effect (R169). -/
def getPodEffect (address start : Byte) (s : State) : Reply × State :=
  if address = 0 then query (podTable start) s
  else onPod address (fun p => query (fun _ => encPod p)) s

end Sys2Proof.Machine
end

