-- ==== Sys2Proof/Machine/Metering.lean ====
section
/-! DEFINITION. The commands of chapter 1: the second, the pulses, the metering interval, the channel readings, and what
the messages of the Time Base and the Meter Block do. -/

namespace Sys2Proof.Machine

/-- The blocks that take a second, in the order a command leaves open (log 3). -/
def allTickReaders : List TickReader := [.timeBase, .brine, .queue, .supply, .loop]

/-- One block's part of a second. -/
def tickPart (r : TickReader) (s : State) : State :=
  match r with
  | .timeBase => timeSecond s
  | .brine => brineSecond s
  | .queue => queueSecond s
  | .supply => supplySecond s
  | .loop => loopSecond s

/-- Every block takes the second, each with its follow-ups (R3, R50, R60, R92, R157, R163, R171, R173). -/
def takeSecond (order : List TickReader) (s : State) : State :=
  (takingOrder order allTickReaders).foldl (fun st r => deliver (tickPart r st)) s

/-- In reset only the clock counts on, and not through a SUPPLY reset (R2). An hour or a midnight it passes meanwhile is
published neither then nor at the restart (R4, log 8). -/
def resetSecond (s : State) : State :=
  match s.resets.inReset with
  | some call =>
    if call.kind = .supply then s else { s with time.clock := (clockSecond s.time.clock).1 }
  | none => s

/-- SECOND_TICK (R3). -/
def execSecondTick (order : List TickReader) (s : State) : Host.Outcome State Fault Refusal :=
  .next (if held s then resetSecond s else finish (takeSecond order s))

/-- METER_PULSE (R9). -/
def execMeterPulse (m : Meter) (s : State) : Host.Outcome State Fault Refusal := .next (running (countPulse m) s)

/-- The parts of a flow sample, in the order a command leaves open (R16, log 3). -/
def allSampleReaders : List SampleReader := [.bed, .run, .leak, .filter, .filterRequest, .queue]

/-- A given order without a request of the Filter Monitor that stands before its measures, which come first (R109). -/
def measuresFirst : List SampleReader → List SampleReader
  | [] => []
  | .filter :: rest => .filter :: rest
  | .filterRequest :: rest => measuresFirst rest
  | r :: rest => r :: measuresFirst rest

/-- The order in which the parts of a sample are taken: the one given, where it leaves the Filter Monitor's request
behind its measures (R16, R109, log 3). -/
def sampleOrder (order : List SampleReader) : List SampleReader := takingOrder (measuresFirst order) allSampleReaders

/-- One part of a flow sample, which expired with V_FLT AT(SERVICE) or not. -/
def samplePart (served : Bool) (x : Sample) (r : SampleReader) (s : State) : State :=
  match r with
  | .bed => bedSample x s
  | .run => runSample x s
  | .leak => leakSample x s
  | .filter => filterSample served x s
  | .filterRequest => filterRequest s
  | .queue => queueSample x s

/-- Every consumer takes the sample, each with its follow-ups (R16); the status of V_FLT is the one at the expiry,
whatever an earlier turn does to it (R105). -/
def publishSample (order : List SampleReader) (x : Sample) (s : State) : State :=
  (sampleOrder order).foldl (fun st r => deliver (samplePart (isAt .flt posService s) x r st)) s

/-- The interval expires: the sample is formed and published (R9, R16). -/
def intervalExpiry (order : List SampleReader) (s : State) : State :=
  publishSample order (closeInterval s).1 (closeInterval s).2

/-- METERING_INTERVAL_EXPIRY (R9). -/
def execMeteringIntervalExpiry (order : List SampleReader) (s : State) : Host.Outcome State Fault Refusal :=
  .next (running (intervalExpiry order) s)

/-- METER_FAULT (R13). -/
def execMeterFault (s : State) : Host.Outcome State Fault Refusal :=
  .next (whenFound meterFaultDue (fun x => meterFault x.1 x.2) s)

/-- A reading reaches the channel's reader (R19); the Filter Monitor reads the pressures at its samples (R107). -/
def channelReader (c : Channel) (s : State) : State :=
  match c with
  | .pIn => s
  | .pOut => s
  | .probeA => probeReading .a s
  | .probeB => probeReading .b s
  | .batt => battReading s
  | .level => levelReading s

/-- CHANNEL_READING (R19, R20). -/
def execChannelReading (c : Channel) (raw : Int) (s : State) : Host.Outcome State Fault Refusal :=
  .next (running (fun st => channelReader c (scanChannel c raw st)) s)

/-- The time SET_TIME stores, each field clamped into its range (R6, R2). -/
def clampedTime (day hour minute second : Byte) : TimeOfWeek :=
  { day := min 6 day.toNat, hour := min 23 hour.toNat, minute := min 59 minute.toNat
    second := min 59 second.toNat, clockSet := true }

/-- A field of SET_TIME was out of range (R6). -/
def timeClamped (day hour minute second : Byte) : Bool :=
  6 < day.toNat || 23 < hour.toNat || 59 < minute.toNat || 59 < second.toNat

/-- SET_TIME's effect (R6). -/
def setTimeEffect (day hour minute second : Byte) (s : State) : Reply × State :=
  let t := clampedTime day hour minute second
  (⟨clampedStatus (timeClamped day hour minute second),
      fun u => u8 u.time.clock.day ++ u8 u.time.clock.hour ++ u8 u.time.clock.minute ++ u8 u.time.clock.second⟩,
    publishIfMoved s { s with time.clock := t })

/-- SET_QUIET_MAP's effect (R7). -/
def setQuietMapEffect (flags : BitVec 168) (s : State) : Reply × State :=
  if flags = s.time.quietMap then replyOk (fun _ => []) s
  else replyOk (fun _ => []) (publishIfMoved s (writeTrigger { s with time.quietMap := flags }))

/-- The record of GET_QUIET_MAP (R7). The quiet status is carried as a yes-or-no byte, 1 for quiet (log 11). -/
def quietMapRecord (s : State) : List Byte :=
  encFlags s.time.quietMap ++ u8 (hourOfWeek s.time.clock) ++ yesNo (quietNow s)

/-- A flow sample's fields (R16). -/
def encSample (x : Sample) : List Byte :=
  u32 x.time ++ u16 x.supply ++ u16 x.drain ++ u8 x.refill ++ u16 x.household ++ u16 x.deficit ++ u16 x.rate ++
    yesNo x.drainValid

/-- The record of GET_FLOW (R18). The drain meter state is carried by its place in R13's list, 0 for valid; the
completed days stand in seven places of four bytes, 0 in those not yet filled (log 11). -/
def flowRecord (s : State) : List Byte :=
  opt 16 encSample s.meter.latest ++ u8 (if s.meter.drainValid then 0 else 1) ++ u8 s.meter.zeroDrain ++
    u32 s.meter.deficit ++ u32 s.meter.dayAccum ++ u8 s.meter.days.length ++
    (List.range 7).flatMap (fun k => u32 ((s.meter.days[k]?).getD 0))

end Sys2Proof.Machine
end

