-- ==== Sys2Proof/Machine/Moves.lean ====
section
/-! DEFINITION. The commands of chapter 7: the grant of the driver, the ends of the phases of a move, and what
CLEAR_FAULT does. -/

namespace Sys2Proof.Machine

/-- The three position senses are read (R113, R119). -/
def readSenses (shut flt soft : Reading) (s : State) : State :=
  setSense .soft soft (setSense .flt flt (setSense .shut shut s))

/-- MOVE_GRANT (R118). -/
def execMoveGrant (shut flt soft : Reading) (s : State) : Host.Outcome State Fault Refusal :=
  .next (running (fun st => arbitrate (readSenses shut flt soft st)) s)

/-- The move that stands in one of these phases. -/
def moveIn (phases : List MovePhase) (s : State) : Option Grant :=
  s.valves.grant.filter (fun g => phases.contains g.phase)

/-- SETTLE ends: the first attempt goes to RECHECK, the retry to DRIVE (R119, R123). -/
def endSettle (reading : Reading) (g : Grant) (s : State) : State :=
  let s1 := setSense g.valve reading s
  if g.retry then startDrive g s1 else recheckMove g s1

/-- SETTLE_END (R119). -/
def execSettleEnd (reading : Reading) (s : State) : Host.Outcome State Fault Refusal :=
  .next (whenFound (moveIn [.settle]) (endSettle reading) s)

/-- The sense reads the move's target (R113). -/
def confirms (reading : Reading) (g : Grant) : Bool := reading == .pos g.target

/-- DRIVE reaches its nominal time: unconfirmed it passes to EXTEND (R121, log 25). -/
def endDrive (reading : Reading) (g : Grant) (s : State) : State :=
  if confirms reading g then confirmMove g s
  else setGrant (some { g with phase := .extend }) (setSense g.valve reading s)

/-- DRIVE_TIMEOUT (R121). -/
def execDriveTimeout (reading : Reading) (s : State) : Host.Outcome State Fault Refusal :=
  .next (whenFound (moveIn [.drive]) (endDrive reading) s)

/-- POSITION_CONFIRMED (R121, R122). -/
def execPositionConfirmed (s : State) : Host.Outcome State Fault Refusal :=
  .next (whenFound (moveIn [.drive, .extend]) confirmMove s)

/-- EXTEND reaches 10 s (R122, R123, log 25). -/
def endExtend (reading : Reading) (g : Grant) (s : State) : State :=
  if confirms reading g then confirmMove g s else stallMove g (setSense g.valve reading s)

/-- EXTEND_STALL (R123). -/
def execExtendStall (reading : Reading) (s : State) : Host.Outcome State Fault Refusal :=
  .next (whenFound (moveIn [.extend]) (endExtend reading) s)

/-- HOLD_END (R122). -/
def execHoldEnd (s : State) : Host.Outcome State Fault Refusal :=
  .next (whenFound (moveIn [.hold]) completeMove s)

/-- A valve in FAULT is made UNKNOWN with no last direction, its standing target re-issued (R124, R125, log 23). -/
def clearValve (v : Valve) (s : State) : State :=
  let s1 := setStatus v .unknown s
  reissue v (setValve v { valveRec v s1 with lastDir := none } s1)

/-- CLEAR_FAULT's effect (R124). The reply carries the status with which the re-issue leaves the valve, before the driver
is granted: UNKNOWN, since R116 answers no request for an UNKNOWN valve at once (log 23). -/
def clearFaultEffect (valve : Byte) (s : State) : Reply × State :=
  match readValve valve with
  | none => refuse .badValue s
  | some v =>
    if isFault v s then
      let cleared := clearValve v s
      replyOk (fun _ => encStatus (valveRec v cleared).status) cleared
    else refuse .state s

end Sys2Proof.Machine
end

