-- ==== Sys2Proof/Machine/Queueing.lean ====
section
/-! DEFINITION. The commands of chapter 5: dispatch, aging, the expiry of a unit deferral, and what the messages of
the Drain Queue do. -/

namespace Sys2Proof.Machine

/-- DISPATCH (R95). -/
def execDispatch (s : State) : Host.Outcome State Fault Refusal := .next (running reevaluateGrant s)

/-- QUEUE_AGING (R92). -/
def execQueueAging (s : State) : Host.Outcome State Fault Refusal := .next (running ageClasses s)

/-- A deferral at 0 becomes absent (R92). -/
def dropZero (d : Option Nat) : Option Nat := d.bind present

/-- Every unit deferral that has counted down to 0 becomes absent (R92). -/
def expireDeferrals (s : State) : State :=
  { s with
    queue.deferA := dropZero s.queue.deferA
    queue.deferB := dropZero s.queue.deferB
    queue.deferF := dropZero s.queue.deferF }

/-- UNIT_DEFERRAL_EXPIRY (R92). -/
def execUnitDeferralExpiry (s : State) : Host.Outcome State Fault Refusal := .next (running expireDeferrals s)

/-! ## REQUEST_REGEN (R97) -/

/-- The refusal of a REQUEST_REGEN for this tank, none when it is taken (R97). -/
def regenBarred (t : Tank) (s : State) : Bool :=
  let role := (tankRec t s).role
  role == .regenerating || (role == .waiting && hasHold t.unit s) ||
    (role == .standby && s.bed.changePending) || (role == .inService && (tankRec t.other s).role != .standby)

/-- What a REQUEST_REGEN does, by the tank's role (R97). For the tank IN_SERVICE nothing reaches the Drain Queue now,
and the unit deferral counts on (log 45). -/
def regenByRole (t : Tank) (cls : Cls) (s : State) : State :=
  match (tankRec t s).role with
  | .inService => askChangeover cls s
  | .standby => queueRequest .host t.unit cls .commanded 0 (setTank t { tankRec t s with role := .waiting } s)
  | .waiting => queueRequest .host t.unit cls .commanded 0 s
  | .regenerating => s

/-- The record of the reply: role, entry, pending flag (R97). -/
def regenRecord (t : Tank) (s : State) : List Byte :=
  u8 (roleCode (tankRec t s).role) ++ opt 16 encEntry (entryOf t.unit s) ++ yesNo s.bed.changePending

/-- REQUEST_REGEN's effect (R97). -/
def requestRegenEffect (tank mode : Byte) (s : State) : Reply × State :=
  match readTank tank, readMode mode with
  | some t, some cls =>
    if regenBarred t s then refuse .state s
    else replyOk (regenRecord t) (regenByRole t cls s)
  | _, _ => refuse .badValue s

/-! ## REQUEST_BACKWASH and CANCEL_RUN (R98, R99) -/

/-- REQUEST_BACKWASH's effect (R98). The reply carries F's entry as an optional field, absent where the action has
already dispatched it (log 55). -/
def requestBackwashEffect (mode : Byte) (s : State) : Reply × State :=
  match readMode mode with
  | none => refuse .badValue s
  | some cls =>
    if runNames .f s || hasHold .f s then refuse .state s
    else replyOk (fun u => opt 16 encEntry (entryOf .f u)) (queueRequest .host .f cls .commanded 0 s)

/-- A queued unit is cancelled: its entry is removed, and a tank's joins again with the deferral (R99). -/
def cancelEntry (e : Entry) (s : State) : State :=
  let s1 := setDeferral e.unit (present (cancelSeconds s)) (removeEntry e.unit s)
  match e.unit.tank with
  | some _ => queueRequest .queue e.unit e.cls .resumed (cancelSeconds s) s1
  | none => s1

/-- The context that names a unit. -/
def ctxOf (u : HeadUnit) (s : State) : Option RunCtx := s.run.ctx.filter (fun c => c.unit == u)

/-- CANCEL_RUN of a unit (R99). -/
def cancelUnit (u : HeadUnit) (s : State) : Reply × State :=
  match ctxOf u s with
  | some c => if c.underWay then replyOk (fun _ => []) (abortRun .commanded .none true s) else refuse .state s
  | none =>
    match entryOf u s with
    | some e => replyOk (fun _ => []) (cancelEntry e s)
    | none => refuse .notFound s

/-- CANCEL_RUN's effect (R99). -/
def cancelRunEffect (unit : Byte) (s : State) : Reply × State :=
  match readUnit unit with
  | some u => cancelUnit u s
  | none => refuse .badValue s

/-! ## GET_QUEUE (R101) -/

/-- An entry with its blocker (R101). -/
def encBlocked (s : State) (e : Entry) : List Byte :=
  encEntry e ++ opt 1 (fun b => u8 (blockerCode b)) (blockerOf e s)

/-- The record of GET_QUEUE (R101). -/
def queueRecord (s : State) : List Byte :=
  (List.range 3).flatMap (fun k => opt 18 (encBlocked s) s.queue.entries[k]?) ++
    opt 1 (fun u => u8 (unitCode u)) s.queue.grant ++
    opt 4 u32 s.queue.deferA ++ opt 4 u32 s.queue.deferB ++ opt 4 u32 s.queue.deferF ++
    u16 s.queue.still ++ opt 2 u16 s.queue.keptRate ++ u16 s.settings.cancelDeferral

end Sys2Proof.Machine
end

