-- ==== Sys2Proof/Machine/Restarting.lean ====
section
/-! DEFINITION. The commands of the Snapshot Store and of the resets (R176 to R180). -/

namespace Sys2Proof.Machine

/-- WRITE_END (R176). -/
def execWriteEnd (s : State) : Host.Outcome State Fault Refusal :=
  .next (if held s then s else match s.store.writing with
    | some img => writeEnds img s
    | none => s)

/-- A reset reaches a part that runs (R176, R177). -/
def assertReset (cause : ResetCause) (s : State) : State :=
  match cause with
  | .supply => coldReset .supply s
  | .brownout => coldReset .brownout s
  | .pin => warmReset { kind := .pin } s

/-- The kind of a reset from outside the link. -/
def kindOfCause : ResetCause → ResetKind
  | .supply => .supply
  | .brownout => .brownout
  | .pin => .pin

/-- RESET_ASSERTED (R177). -/
def execResetAsserted (cause : ResetCause) (s : State) : Host.Outcome State Fault Refusal :=
  .next (match s.resets.inReset with
    | some old => resetAgain old (kindOfCause cause) s
    | none => assertReset cause s)

/-- RESTART (R178). -/
def execRestart (s : State) : Host.Outcome State Fault Refusal :=
  .next (match s.resets.inReset with
    | some call => finish (restartPart call s)
    | none => s)

/-- RESET's effect: the reply goes out in full before the reset (R180). -/
def resetEffect (option : Byte) (s : State) : Reply × State :=
  match readResetOption option with
  | none => refuse .badValue s
  | some o => replyOk (fun _ => []) { s with resets := { s.resets with linkDue := some o } }

/-- The LINK reset of a RESET whose reply has been sent in full (R180). -/
def linkResetDue (s : State) : Option ResetOption :=
  if held s || s.link.state == .answering then none else s.resets.linkDue

/-- LINK_RESET (R177, R180). -/
def execLinkReset (s : State) : Host.Outcome State Fault Refusal :=
  .next (match linkResetDue s with
    | some o => linkResetOf o s
    | none => s)

end Sys2Proof.Machine
end

