-- ==== Sys2Proof/Machine/Runs.lean ====
section
/-! DEFINITION. The commands of chapter 4: the moments of a run, the release of re-queue holds, and what the messages of
the step table and the run context do. -/

namespace Sys2Proof.Machine

/-- STEP_END (R76). -/
def execStepEnd (s : State) : Host.Outcome State Fault Refusal :=
  .next (whenFound stepDue (fun p => stepOver p.1 p.2) s)

/-- HOLD_ENTRY (R77). -/
def execHoldEntry (s : State) : Host.Outcome State Fault Refusal := .next (whenFound holdDue enterHold s)

/-- HOLD_RELEASE (R78). -/
def execHoldRelease (s : State) : Host.Outcome State Fault Refusal := .next (whenFound releaseDue releaseHold s)

/-- POWER_SUSPENSION_LIMIT (R80). -/
def execPowerSuspensionLimit (s : State) : Host.Outcome State Fault Refusal :=
  .next (whenDue powerLimitDue powerLimitAbort s)

/-- RUN_RESUME (R81). -/
def execRunResume (s : State) : Host.Outcome State Fault Refusal := .next (whenFound resumeDue resumeRun s)

/-- The run can end: FINISHING, and the finishing move is not needed or has completed (R83). -/
def runEndDue (s : State) : Bool := s.run.ctx.any (fun c => c.state == .finishing && endsAtOnce c s)

/-- RUN_END (R83). -/
def execRunEnd (s : State) : Host.Outcome State Fault Refusal := .next (whenDue runEndDue runEnd s)

/-- A hold that waits for a valve which is not in FAULT (R85, log 33). -/
def clearHold (s : State) (h : RequeueHold) : Bool := h.condition == .valveClear && !isFault h.unit.valve s

/-- REQUEUE_HOLD_RELEASE (R85). -/
def execRequeueHoldRelease (s : State) : Host.Outcome State Fault Refusal :=
  .next (running (fun st => releaseHolds (clearHold st) st) s)

/-! ## The step table (R64 to R67) -/

/-- A slot number of the table. -/
def slotValid (slot : Byte) : Bool := 1 ≤ slot.toNat && slot.toNat ≤ 16

/-- The slot is the current slot of a run under way (R66). -/
def slotBusy (slot : Byte) (s : State) : Bool :=
  s.run.ctx.any (fun c => c.underWay && c.slot == some slot.toNat)

/-- The fields of a PUT_STEP as carried, with every named value read; none where a code names nothing (R66, R196). -/
def readStep (phase measure : Byte) (amount : BitVec 16) (capPresent : Byte) (cap : BitVec 16)
    (holdAllowed next : Byte) : Option Step :=
  match readPhase phase, readMeasure measure, readYesNo capPresent, readYesNo holdAllowed with
  | some p, some m, some c, some h =>
    some { phase := p, measure := m, amount := amount.toNat, cap := if c then some cap.toNat else none
           holdAllowed := h, next := if next = 0 then none else some next.toNat }
  | _, _, _, _ => none

/-- The checks of structure (R66). -/
def stepSound (st : Step) : Bool :=
  !(st.phase == .brine && st.measure == .volume) && !(st.phase == .refill && st.measure == .time) &&
    !(st.measure == .volume && st.phase != .refill && st.cap.isNone) &&
    !(st.cap.isSome && (st.measure == .time || st.phase == .refill)) && st.next.all (· ≤ 16)

/-- The largest amount of a measure (R64). -/
def amountLimit : Measure → Nat
  | .time => 7200
  | .volume => 5000

/-- Amount and cap clamped into their ranges (R66). -/
def clampStep (st : Step) : Step :=
  { st with amount := clampNat 1 (amountLimit st.measure) st.amount, cap := st.cap.map (clampNat 1 7200) }

/-- A slot is stored: a write trigger, and a programme edit (R66, R85). -/
def storeStep (slot : Byte) (x : Option Step) (s : State) : State :=
  releaseEditHolds (writeTrigger { s with run.table := setSlot s.run.table slot.toNat x })

/-- PUT_STEP with a step record (R66). -/
def putRecord (slot : Byte) (st : Step) (s : State) : Reply × State :=
  if stepSound st then
    (⟨clampedStatus (clampStep st != st), fun _ => encSlot (some (clampStep st))⟩, storeStep slot (some (clampStep st)) s)
  else refuse .badValue s

/-- PUT_STEP's effect (R66). A byte that names no value is refused after BUSY (log 26). -/
def putStepEffect (slot emptyMark : Byte) (st : Option Step) (s : State) : Reply × State :=
  if !slotValid slot then refuse .badValue s
  else if slotBusy slot s then refuse .busy s
  else match readYesNo emptyMark, st with
    | none, _ => refuse .badValue s
    | some true, _ => replyOk (fun _ => encSlot none) (storeStep slot none s)
    | some false, none => refuse .badValue s
    | some false, some x => putRecord slot x s

/-- GET_STEP's effect (R67). -/
def getStepEffect (slot : Byte) (s : State) : Reply × State :=
  if slotValid slot then
    query (fun u => encSlot (slotOf u.run.table slot.toNat) ++ u8 u.run.softEntry ++ u8 u.run.filterEntry) s
  else refuse .badValue s

/-- The pointer a SET_ENTRY names is stored: SOFTENER 0, FILTER 1 (R65). -/
def storeEntry (pointer slot : Byte) (s : State) : State :=
  let s1 := if pointer = 0 then { s with run.softEntry := slot.toNat } else { s with run.filterEntry := slot.toNat }
  releaseEditHolds (writeTrigger s1)

/-- SET_ENTRY's effect (R65). -/
def setEntryEffect (pointer slot : Byte) (s : State) : Reply × State :=
  if 1 < pointer.toNat || !slotValid slot then refuse .badValue s
  else replyOk (fun u => u8 u.run.softEntry ++ u8 u.run.filterEntry) (storeEntry pointer slot s)

/-! ## GET_RUN (R86) -/

/-- The outcome of a run: DONE 0 or ABORTED 1, the reason, its detail (R68, R196), zeros under DONE (log 49). -/
def encOutcome : RunOutcome → List Byte
  | .done => u8 0 ++ u8 0 ++ u8 0 ++ u8 0
  | .aborted a => u8 1 ++ u8 (abortReasonCode a.reason) ++ encAbortDetail a.detail

/-- The suspension causes: SHUTOFF in bit 0, POWER in bit 1 (R68, R196). -/
def encCauses (c : RunCtx) : List Byte := u8 ((if c.susShutoff then 1 else 0) + (if c.susPower then 2 else 0))

/-- Every field of a run context (R68). -/
def encCtx (c : RunCtx) : List Byte :=
  u8 (unitCode c.unit) ++ u8 (clsCode c.cls) ++ u8 (reasonCode c.reason) ++ opt 1 u8 c.slot ++ u8 c.steps ++
    u16 c.elapsed ++ u32 c.stepVolume ++ u32 c.refilled ++ u16 c.refillTarget ++ yesNo c.posReached ++
    opt 2 (fun (w : Awaited) => u8 (valveCode w.valve) ++ u8 w.target) c.awaited ++ u8 c.holdCount ++
    u8 c.releaseCount ++ u16 c.budget ++ encCauses c ++ yesNo c.parked ++ u32 c.powerSuspended ++
    u32 c.suspendedTotal ++ u32 c.startCounter ++ encTime c.startTime ++ yesNo c.saltComputed ++
    yesNo c.brineDone ++ opt 4 u32 c.dissolved ++ u16 c.pendingCredit ++ u8 c.restarts ++ opt 4 encOutcome c.outcome

/-- State, context and, as an optional field, the step record of the current slot (R86, log 55); 0 in IDLE (log 49). -/
def encRun (s : State) : List Byte :=
  match s.run.ctx with
  | none => u8 0 ++ List.replicate 70 0
  | some c => u8 (runStateCode c.state) ++ encCtx c ++ opt 9 encStep (currentStep c s)

/-- A re-queue hold (R85). -/
def encHold (h : RequeueHold) : List Byte := u8 (unitCode h.unit) ++ u8 (clsCode h.cls) ++ u8 (holdConditionCode h.condition)

/-- The record of GET_RUN (R86). The re-queue holds fill their three places from the first, in the order in which they
were made (log 58). -/
def runRecord (s : State) : List Byte :=
  encRun s ++ u16 s.settings.holdThreshold ++ u16 s.settings.holdBudget ++ u8 s.settings.powerLimit ++
    (List.range 3).flatMap (fun k => opt 3 encHold s.run.holds[k]?)

end Sys2Proof.Machine
end

