-- ==== Sys2Proof/Machine/Salt.lean ====
section
/-! DEFINITION. The commands of chapter 3: the expiry of the two salt timers, and what the messages of the Brine
Monitor do. -/

namespace Sys2Proof.Machine

/-- REMINDER_TIMER_EXPIRY (R60). -/
def execReminderTimerExpiry (s : State) : Host.Outcome State Fault Refusal :=
  .next (whenDue reminderDue reminderExpiry s)

/-- SNOOZE_TIMER_EXPIRY (R60). -/
def execSnoozeTimerExpiry (s : State) : Host.Outcome State Fault Refusal := .next (whenDue snoozeDue snoozeExpiry s)

/-- The mass a SALT_ADDED takes (R56). -/
def clampedMass (mass : BitVec 32) : Nat := clampNat 1 150000 mass.toNat

/-- The salt joins the model, clamped to the mass capacity, and the counters are cleared (R56). -/
def pourSalt (mass : Nat) (s : State) : State :=
  writeTrigger (evalStage (clearCounters
    { s with brine.model := min (massCapacity s.settings) (s.brine.model + mass) }))

/-- The record of SALT_ADDED: the model mass, then the mass taken as an optional field, present where it was clamped, so
that the record has nine bytes either way (R56, R196, log 44). -/
def saltAddedRecord (taken : Option Nat) (s : State) : List Byte := u32 s.brine.model ++ opt 4 u32 taken

/-- SALT_ADDED's effect (R56). -/
def saltAddedEffect (mass : BitVec 32) (s : State) : Reply × State :=
  let m := clampedMass mass
  let clamped := m != mass.toNat
  (⟨clampedStatus clamped, saltAddedRecord (if clamped then some m else none)⟩, pourSalt m s)

/-- ACK_SALT's effect (R61). -/
def ackSaltEffect (s : State) : Reply × State :=
  if s.brine.stage = .ok then refuse .state s
  else replyOk (fun u => u8 (stageCode u.brine.stage) ++ u32 Config.snoozeSeconds)
    { s with brine.snooze := some Config.snoozeSeconds }

/-- CLEAR_BRIDGE's effect (R57). -/
def clearBridgeEffect (s : State) : Reply × State :=
  replyOk (fun u => yesNo u.brine.bridge ++ u8 u.brine.regens ++ u32 u.brine.modelDrop ++ u32 u.brine.levelDrop)
    (writeTrigger (evalStage (clearCounters { s with brine.bridge := false })))

/-- The record of GET_SALT (R63). -/
def saltRecord (s : State) : List Byte :=
  u32 s.brine.volume ++ u16 s.brine.age ++ u32 s.brine.model ++ opt 4 u32 s.brine.levelMass ++
    opt 4 u32 s.brine.comparison ++ u32 (saltEstimate s) ++ u32 (massCapacity s.settings) ++
    u32 (emptyMass s.settings) ++ yesNo s.brine.bridge ++ u8 s.brine.regens ++ u32 s.brine.modelDrop ++
    opt 4 u32 s.brine.anchor ++ u32 s.brine.levelDrop ++
    (List.range 7).flatMap (fun k => u32 ((s.brine.ring[k]?).getD 0)) ++ u32 s.brine.accum ++
    opt 2 u16 (daysRemaining s) ++ u8 (stageCode s.brine.stage) ++ opt 4 u32 s.brine.reminder ++
    opt 4 u32 s.brine.snooze

end Sys2Proof.Machine
end

