-- ==== Sys2Proof/Machine/Messages.lean ====
section
/-! DEFINITION. The service link as it takes bytes (R182 to R185): what each message of the catalogue does, the receiver
byte by byte, and the commands that are bytes: every message, the sync byte, the bytes of a frame that is discarded. -/

namespace Sys2Proof.Machine

/-! ## What a message does (R185, R195) -/

/-- The checks, the effect and the reply of a message, by the rule the catalogue gives for it (R195); a command that is
no message has none. -/
def effectOf (m : Instr) : Effect :=
  match m with
  | .badKind .. => refuse .badKind
  | .badLength .. => refuse .badLength
  | .identify _ => query identityRecord
  | .getStatus _ code => getStatusEffect code
  | .getFlow _ => query flowRecord
  | .getTanks _ => query tanksRecord
  | .getSalt _ => query saltRecord
  | .getFilter _ => query filterRecord
  | .getQueue _ => query queueRecord
  | .getRun _ => query runRecord
  | .getEvents _ => getEventsEffect
  | .peekEvents _ start => query (peekRecord start)
  | .setAttentionMask _ mask => setMaskEffect mask
  | .setParam _ id value => setParamEffect id value
  | .getParam _ id => getParamEffect id
  | .setTime _ day hour minute second => setTimeEffect day hour minute second
  | .setQuietMap _ flags => setQuietMapEffect flags
  | .getQuietMap _ => query quietMapRecord
  | .putStep _ slot emptyMark phase measure amount capPresent cap holdAllowed next =>
    putStepEffect slot emptyMark (readStep phase measure amount capPresent cap holdAllowed next)
  | .getStep _ slot => getStepEffect slot
  | .setEntry _ pointer slot => setEntryEffect pointer slot
  | .requestRegen _ tank mode => requestRegenEffect tank mode
  | .requestBackwash _ mode => requestBackwashEffect mode
  | .cancelRun _ unit => cancelRunEffect unit
  | .clearFault _ valve => clearFaultEffect valve
  | .enableProbe _ tank => enableProbeEffect tank
  | .saltAdded _ mass => saltAddedEffect mass
  | .ackSalt _ => ackSaltEffect
  | .clearBridge _ => clearBridgeEffect
  | .setAway _ onOrOff => setAwayEffect onOrOff
  | .extendEpisode _ => extendEffect
  | .ackLeak _ => ackLeakEffect
  | .shutoffClose _ => shutoffCloseEffect
  | .shutoffOpen _ => shutoffOpenEffect
  | .putFixture _ id rateLow rateHigh maxMinutes maxLitres hours awayAllowed =>
    putFixtureEffect id (readFixture rateLow rateHigh maxMinutes maxLitres hours awayAllowed)
  | .dropFixture _ id => dropFixtureEffect id
  | .getFixture _ id => getFixtureEffect id
  | .enrolPod _ policy => enrolEffect policy
  | .retirePod _ address => retirePodEffect address
  | .ackPod _ address => ackPodEffect address
  | .getPod _ address start => getPodEffect address start
  | .setPodPolicy _ address policy => setPolicyEffect address policy
  | .reset _ option => resetEffect option
  | _ => refuse .badKind

/-- The kind of the reply to a request of this kind: 80h above it, and the request's own under BAD_KIND (R185). -/
def replyKind (m : Instr) (kind : Byte) : Byte :=
  match m with
  | .badKind .. => kind
  | _ => kind + 0x80

/-- An accepted frame is answered (R185). -/
def answer (m : Instr) (r : Link.Request) (s : State) : State := answerWith (replyKind m r.kind) r.tag (effectOf m) s

/-- A frame that completes while the link is ANSWERING is an overrun, one that is accepted in LISTENING a request
(R184). -/
def takeRequest (m : Instr) (r : Link.Request) (s : State) : State :=
  match s.link.state with
  | .answering => overrun s
  | .listening => answer m r s

/-! ## The receiver (R182, R183) -/

/-- The sync byte: the receiver is COLLECTING and the collected bytes start afresh (R182). -/
def startFrame (s : State) : State := { s with link.rx := .collecting, link.collected := [] }

/-- A frame that ends with a CRC that does not match: a framing error, or an overrun alone in ANSWERING (R183, R184). -/
def badFrame (s : State) : State :=
  match s.link.state with
  | .answering => overrun s
  | .listening => framingError s

/-- The bytes collected after the sync byte are judged as they stand (R182, R183). -/
def judgeCollected (bytes : List Byte) (s : State) : State :=
  match Link.judge bytes with
  | .notAFrame => { s with link.collected := bytes }
  | .badLengthByte => framingError s
  | .badCrc => badFrame s
  | .accepted => takeRequest (Link.readRequest (Link.requestIn bytes)) (Link.requestIn bytes) s

/-- A byte reaches the receiver: lost in DORMANT and in reset, the sync byte or nothing in HUNT, collected in COLLECTING
(R182). -/
def receiveByte (s : State) (b : Byte) : State :=
  if linkDeaf s then s
  else match s.link.rx with
    | .hunt => if b = Config.syncByte then startFrame s else s
    | .collecting => judgeCollected (s.link.collected ++ [b]) s

/-- Bytes reach the receiver one after another (R182). -/
def receive (bytes : List Byte) (s : State) : State := bytes.foldl receiveByte s

/-- These bytes, which follow a sync byte, complete the frame that is being collected: none is begun, or it begins as
they do (log 29). -/
def completes (body : List Byte) (s : State) : Bool :=
  s.link.rx == .hunt || s.link.collected.isPrefixOf body

/-- The frame of a message reaches the part whole: in HUNT, and where it completes the frame being collected, it is
accepted; within another frame its bytes are taken as they come (R182, R184, log 29). -/
def message (m : Instr) (s : State) : State :=
  match Link.requestOf m with
  | none => s
  | some r =>
    if linkDeaf s then s
    else if completes r.body s then takeRequest m r s
    else receive (Link.frame r.kind r.tag r.payload) s

/-! ## The commands that are bytes -/

/-- SYNC_BYTE: a byte C3h (R182). -/
def execSyncByte (s : State) : Host.Outcome State Fault Refusal := .next (receive [Config.syncByte] s)

/-- FRAME_DISCARD: the bytes that reach the receiver, of which a frame with a length above 96 or a bad CRC is discarded
(R183, log 29). -/
def execFrameDiscard (bytes : List Byte) (s : State) : Host.Outcome State Fault Refusal := .next (receive bytes s)

/-- BAD_KIND (R185). -/
def execBadKind (tag kind : Byte) (s : State) : Host.Outcome State Fault Refusal :=
  .next (message (.badKind tag kind) s)

/-- BAD_LENGTH (R185). -/
def execBadLength (tag kind : Byte) (length : Nat) (s : State) : Host.Outcome State Fault Refusal :=
  .next (message (.badLength tag kind length) s)

/-- IDENTIFY (R193). -/
def execIdentify (tag : Byte) (s : State) : Host.Outcome State Fault Refusal := .next (message (.identify tag) s)

/-- GET_STATUS (R194). -/
def execGetStatus (tag sectionCode : Byte) (s : State) : Host.Outcome State Fault Refusal :=
  .next (message (.getStatus tag sectionCode) s)

/-- GET_FLOW (R18). -/
def execGetFlow (tag : Byte) (s : State) : Host.Outcome State Fault Refusal := .next (message (.getFlow tag) s)

/-- GET_TANKS (R45). -/
def execGetTanks (tag : Byte) (s : State) : Host.Outcome State Fault Refusal := .next (message (.getTanks tag) s)

/-- GET_SALT (R63). -/
def execGetSalt (tag : Byte) (s : State) : Host.Outcome State Fault Refusal := .next (message (.getSalt tag) s)

/-- GET_FILTER (R112). -/
def execGetFilter (tag : Byte) (s : State) : Host.Outcome State Fault Refusal := .next (message (.getFilter tag) s)

/-- GET_QUEUE (R101). -/
def execGetQueue (tag : Byte) (s : State) : Host.Outcome State Fault Refusal := .next (message (.getQueue tag) s)

/-- GET_RUN (R86). -/
def execGetRun (tag : Byte) (s : State) : Host.Outcome State Fault Refusal := .next (message (.getRun tag) s)

/-- GET_EVENTS (R189). -/
def execGetEvents (tag : Byte) (s : State) : Host.Outcome State Fault Refusal := .next (message (.getEvents tag) s)

/-- PEEK_EVENTS (R190). -/
def execPeekEvents (tag startKind : Byte) (s : State) : Host.Outcome State Fault Refusal :=
  .next (message (.peekEvents tag startKind) s)

/-- SET_ATTENTION_MASK (R191). -/
def execSetAttentionMask (tag : Byte) (mask : BitVec 32) (s : State) : Host.Outcome State Fault Refusal :=
  .next (message (.setAttentionMask tag mask) s)

/-- SET_PARAM (R187). -/
def execSetParam (tag id : Byte) (value : BitVec 32) (s : State) : Host.Outcome State Fault Refusal :=
  .next (message (.setParam tag id value) s)

/-- GET_PARAM (R187). -/
def execGetParam (tag id : Byte) (s : State) : Host.Outcome State Fault Refusal :=
  .next (message (.getParam tag id) s)

/-- SET_TIME (R6). -/
def execSetTime (tag day hour minute second : Byte) (s : State) : Host.Outcome State Fault Refusal :=
  .next (message (.setTime tag day hour minute second) s)

/-- SET_QUIET_MAP (R7). -/
def execSetQuietMap (tag : Byte) (flags : BitVec 168) (s : State) : Host.Outcome State Fault Refusal :=
  .next (message (.setQuietMap tag flags) s)

/-- GET_QUIET_MAP (R7). -/
def execGetQuietMap (tag : Byte) (s : State) : Host.Outcome State Fault Refusal :=
  .next (message (.getQuietMap tag) s)

/-- PUT_STEP (R66). -/
def execPutStep (tag slot emptyMark phase measure : Byte) (amount : BitVec 16) (capPresent : Byte)
    (cap : BitVec 16) (holdAllowed next : Byte) (s : State) : Host.Outcome State Fault Refusal :=
  .next (message (.putStep tag slot emptyMark phase measure amount capPresent cap holdAllowed next) s)

/-- GET_STEP (R67). -/
def execGetStep (tag slot : Byte) (s : State) : Host.Outcome State Fault Refusal :=
  .next (message (.getStep tag slot) s)

/-- SET_ENTRY (R65). -/
def execSetEntry (tag pointer slot : Byte) (s : State) : Host.Outcome State Fault Refusal :=
  .next (message (.setEntry tag pointer slot) s)

/-- REQUEST_REGEN (R97). -/
def execRequestRegen (tag tank mode : Byte) (s : State) : Host.Outcome State Fault Refusal :=
  .next (message (.requestRegen tag tank mode) s)

/-- REQUEST_BACKWASH (R98). -/
def execRequestBackwash (tag mode : Byte) (s : State) : Host.Outcome State Fault Refusal :=
  .next (message (.requestBackwash tag mode) s)

/-- CANCEL_RUN (R99). -/
def execCancelRun (tag unit : Byte) (s : State) : Host.Outcome State Fault Refusal :=
  .next (message (.cancelRun tag unit) s)

/-- CLEAR_FAULT (R124). -/
def execClearFault (tag valve : Byte) (s : State) : Host.Outcome State Fault Refusal :=
  .next (message (.clearFault tag valve) s)

/-- ENABLE_PROBE (R41). -/
def execEnableProbe (tag tank : Byte) (s : State) : Host.Outcome State Fault Refusal :=
  .next (message (.enableProbe tag tank) s)

/-- SALT_ADDED (R56). -/
def execSaltAdded (tag : Byte) (mass : BitVec 32) (s : State) : Host.Outcome State Fault Refusal :=
  .next (message (.saltAdded tag mass) s)

/-- ACK_SALT (R61). -/
def execAckSalt (tag : Byte) (s : State) : Host.Outcome State Fault Refusal := .next (message (.ackSalt tag) s)

/-- CLEAR_BRIDGE (R57). -/
def execClearBridge (tag : Byte) (s : State) : Host.Outcome State Fault Refusal :=
  .next (message (.clearBridge tag) s)

/-- SET_AWAY (R133). -/
def execSetAway (tag onOrOff : Byte) (s : State) : Host.Outcome State Fault Refusal :=
  .next (message (.setAway tag onOrOff) s)

/-- EXTEND_EPISODE (R139). -/
def execExtendEpisode (tag : Byte) (s : State) : Host.Outcome State Fault Refusal :=
  .next (message (.extendEpisode tag) s)

/-- ACK_LEAK (R145). -/
def execAckLeak (tag : Byte) (s : State) : Host.Outcome State Fault Refusal := .next (message (.ackLeak tag) s)

/-- SHUTOFF_CLOSE (R147). -/
def execShutoffClose (tag : Byte) (s : State) : Host.Outcome State Fault Refusal :=
  .next (message (.shutoffClose tag) s)

/-- SHUTOFF_OPEN (R148). -/
def execShutoffOpen (tag : Byte) (s : State) : Host.Outcome State Fault Refusal :=
  .next (message (.shutoffOpen tag) s)

/-- PUT_FIXTURE (R135). -/
def execPutFixture (tag id : Byte) (rateLow rateHigh maxMinutes maxLitres : BitVec 16) (hours : BitVec 24)
    (awayAllowed : Byte) (s : State) : Host.Outcome State Fault Refusal :=
  .next (message (.putFixture tag id rateLow rateHigh maxMinutes maxLitres hours awayAllowed) s)

/-- DROP_FIXTURE (R136). -/
def execDropFixture (tag id : Byte) (s : State) : Host.Outcome State Fault Refusal :=
  .next (message (.dropFixture tag id) s)

/-- GET_FIXTURE (R136). -/
def execGetFixture (tag id : Byte) (s : State) : Host.Outcome State Fault Refusal :=
  .next (message (.getFixture tag id) s)

/-- ENROL_POD (R163). -/
def execEnrolPod (tag policy : Byte) (s : State) : Host.Outcome State Fault Refusal :=
  .next (message (.enrolPod tag policy) s)

/-- RETIRE_POD (R167). -/
def execRetirePod (tag address : Byte) (s : State) : Host.Outcome State Fault Refusal :=
  .next (message (.retirePod tag address) s)

/-- ACK_POD (R162). -/
def execAckPod (tag address : Byte) (s : State) : Host.Outcome State Fault Refusal :=
  .next (message (.ackPod tag address) s)

/-- GET_POD (R169). -/
def execGetPod (tag address start : Byte) (s : State) : Host.Outcome State Fault Refusal :=
  .next (message (.getPod tag address start) s)

/-- SET_POD_POLICY (R168). -/
def execSetPodPolicy (tag address policy : Byte) (s : State) : Host.Outcome State Fault Refusal :=
  .next (message (.setPodPolicy tag address policy) s)

/-- RESET (R180). -/
def execReset (tag option : Byte) (s : State) : Host.Outcome State Fault Refusal :=
  .next (message (.reset tag option) s)

end Sys2Proof.Machine
end

