-- ==== Sys2Proof/Machine/Powering.lean ====
section
/-! DEFINITION. The commands of the Supply Monitor (R171 to R174). -/

namespace Sys2Proof.Machine

/-- The sense input takes its level; a change of it acts on the regime (R171, log 34). -/
def senseMains (level : Bool) (s : State) : State :=
  let s1 := { s with supply.mainsPin := level }
  if s.supply.mainsPresent = level then s1 else mainsChange level s1

/-- MAINS_SENSE_CHANGE (R171); in reset only the input takes its level. -/
def execMainsSenseChange (level : Bool) (s : State) : Host.Outcome State Fault Refusal :=
  .next (if held s then { s with supply.mainsPin := level } else finish (senseMains level s))

/-- MAINS_CONFIRMED (R171). -/
def execMainsConfirmed (s : State) : Host.Outcome State Fault Refusal := .next (whenDue confirmDue mainsConfirm s)

/-- DORMANT_SEQUENCE (R172). -/
def execDormantSequence (s : State) : Host.Outcome State Fault Refusal := .next (whenDue lowDue dormantSequence s)

/-- DORMANT_CLOSE_WAIT_EXPIRY (R173). -/
def execDormantCloseWaitExpiry (s : State) : Host.Outcome State Fault Refusal :=
  .next (whenDue waitOver enterDormant s)

/-- DORMANT_ENTRY (R174). -/
def execDormantEntry (s : State) : Host.Outcome State Fault Refusal := .next (whenDue dormantDue enterDormant s)

end Sys2Proof.Machine
end

