-- ==== Sys2Proof/Machine/Dispatch.lean ====
section
/-! DEFINITION. One arm for each command: its meaning, called with its operands. -/

namespace Sys2Proof.Machine

def exec (i : Instr) (s : State) : Host.Outcome State Fault Refusal :=
  match i with
  | .secondTick order => Sys2Proof.Machine.execSecondTick order s
  | .meterPulse meter => Sys2Proof.Machine.execMeterPulse meter s
  | .meteringIntervalExpiry order => Sys2Proof.Machine.execMeteringIntervalExpiry order s
  | .meterFault => Sys2Proof.Machine.execMeterFault s
  | .changeoverComplete => Sys2Proof.Machine.execChangeoverComplete s
  | .stepEnd => Sys2Proof.Machine.execStepEnd s
  | .holdEntry => Sys2Proof.Machine.execHoldEntry s
  | .holdRelease => Sys2Proof.Machine.execHoldRelease s
  | .powerSuspensionLimit => Sys2Proof.Machine.execPowerSuspensionLimit s
  | .runResume => Sys2Proof.Machine.execRunResume s
  | .runEnd => Sys2Proof.Machine.execRunEnd s
  | .requeueHoldRelease => Sys2Proof.Machine.execRequeueHoldRelease s
  | .dispatch => Sys2Proof.Machine.execDispatch s
  | .queueAging => Sys2Proof.Machine.execQueueAging s
  | .unitDeferralExpiry => Sys2Proof.Machine.execUnitDeferralExpiry s
  | .pressureTrigger => Sys2Proof.Machine.execPressureTrigger s
  | .episodeEnd => Sys2Proof.Machine.execEpisodeEnd s
  | .fixtureMatch => Sys2Proof.Machine.execFixtureMatch s
  | .limitTrip => Sys2Proof.Machine.execLimitTrip s
  | .burstTrip => Sys2Proof.Machine.execBurstTrip s
  | .leakIsolated => Sys2Proof.Machine.execLeakIsolated s
  | .probationEnd => Sys2Proof.Machine.execProbationEnd s
  | .probationTrip => Sys2Proof.Machine.execProbationTrip s
  | .shutoffPassing => Sys2Proof.Machine.execShutoffPassing s
  | .dripSuspect => Sys2Proof.Machine.execDripSuspect s
  | .channelReading channel raw => Sys2Proof.Machine.execChannelReading channel raw s
  | .probeTrip => Sys2Proof.Machine.execProbeTrip s
  | .reminderTimerExpiry => Sys2Proof.Machine.execReminderTimerExpiry s
  | .snoozeTimerExpiry => Sys2Proof.Machine.execSnoozeTimerExpiry s
  | .mainsSenseChange present => Sys2Proof.Machine.execMainsSenseChange present s
  | .mainsConfirmed => Sys2Proof.Machine.execMainsConfirmed s
  | .dormantSequence => Sys2Proof.Machine.execDormantSequence s
  | .dormantCloseWaitExpiry => Sys2Proof.Machine.execDormantCloseWaitExpiry s
  | .dormantEntry => Sys2Proof.Machine.execDormantEntry s
  | .pollTimerExpiry => Sys2Proof.Machine.execPollTimerExpiry s
  | .pollEnd outcome => Sys2Proof.Machine.execPollEnd outcome s
  | .podSilent => Sys2Proof.Machine.execPodSilent s
  | .enrolDiscoverEnd serial => Sys2Proof.Machine.execEnrolDiscoverEnd serial s
  | .enrolAssignEnd confirmed => Sys2Proof.Machine.execEnrolAssignEnd confirmed s
  | .listenExpiry => Sys2Proof.Machine.execListenExpiry s
  | .recoveryDiscoverEnd serial => Sys2Proof.Machine.execRecoveryDiscoverEnd serial s
  | .recoveryAssignEnd confirmed => Sys2Proof.Machine.execRecoveryAssignEnd confirmed s
  | .releaseAssignEnd confirmed => Sys2Proof.Machine.execReleaseAssignEnd confirmed s
  | .moveGrant shut flt soft => Sys2Proof.Machine.execMoveGrant shut flt soft s
  | .settleEnd reading => Sys2Proof.Machine.execSettleEnd reading s
  | .driveTimeout reading => Sys2Proof.Machine.execDriveTimeout reading s
  | .positionConfirmed => Sys2Proof.Machine.execPositionConfirmed s
  | .extendStall reading => Sys2Proof.Machine.execExtendStall reading s
  | .holdEnd => Sys2Proof.Machine.execHoldEnd s
  | .writeEnd => Sys2Proof.Machine.execWriteEnd s
  | .resetAsserted cause => Sys2Proof.Machine.execResetAsserted cause s
  | .restart => Sys2Proof.Machine.execRestart s
  | .receiveGapTimeout => Sys2Proof.Machine.execReceiveGapTimeout s
  | .frameDiscard bytes => Sys2Proof.Machine.execFrameDiscard bytes s
  | .frameOverrun => Sys2Proof.Machine.execFrameOverrun s
  | .replySent => Sys2Proof.Machine.execReplySent s
  | .badKind tag kind => Sys2Proof.Machine.execBadKind tag kind s
  | .badLength tag kind length => Sys2Proof.Machine.execBadLength tag kind length s
  | .identify tag => Sys2Proof.Machine.execIdentify tag s
  | .getStatus tag sectionCode => Sys2Proof.Machine.execGetStatus tag sectionCode s
  | .getFlow tag => Sys2Proof.Machine.execGetFlow tag s
  | .getTanks tag => Sys2Proof.Machine.execGetTanks tag s
  | .getSalt tag => Sys2Proof.Machine.execGetSalt tag s
  | .getFilter tag => Sys2Proof.Machine.execGetFilter tag s
  | .getQueue tag => Sys2Proof.Machine.execGetQueue tag s
  | .getRun tag => Sys2Proof.Machine.execGetRun tag s
  | .getEvents tag => Sys2Proof.Machine.execGetEvents tag s
  | .peekEvents tag startKind => Sys2Proof.Machine.execPeekEvents tag startKind s
  | .setAttentionMask tag mask => Sys2Proof.Machine.execSetAttentionMask tag mask s
  | .setParam tag id value => Sys2Proof.Machine.execSetParam tag id value s
  | .getParam tag id => Sys2Proof.Machine.execGetParam tag id s
  | .setTime tag day hour minute second => Sys2Proof.Machine.execSetTime tag day hour minute second s
  | .setQuietMap tag flags => Sys2Proof.Machine.execSetQuietMap tag flags s
  | .getQuietMap tag => Sys2Proof.Machine.execGetQuietMap tag s
  | .putStep tag slot emptyMark phase measure amount capPresent cap holdAllowed next => Sys2Proof.Machine.execPutStep tag slot emptyMark phase measure amount capPresent cap holdAllowed next s
  | .getStep tag slot => Sys2Proof.Machine.execGetStep tag slot s
  | .setEntry tag pointer slot => Sys2Proof.Machine.execSetEntry tag pointer slot s
  | .requestRegen tag tank mode => Sys2Proof.Machine.execRequestRegen tag tank mode s
  | .requestBackwash tag mode => Sys2Proof.Machine.execRequestBackwash tag mode s
  | .cancelRun tag unit => Sys2Proof.Machine.execCancelRun tag unit s
  | .clearFault tag valve => Sys2Proof.Machine.execClearFault tag valve s
  | .enableProbe tag tank => Sys2Proof.Machine.execEnableProbe tag tank s
  | .saltAdded tag mass => Sys2Proof.Machine.execSaltAdded tag mass s
  | .ackSalt tag => Sys2Proof.Machine.execAckSalt tag s
  | .clearBridge tag => Sys2Proof.Machine.execClearBridge tag s
  | .setAway tag onOrOff => Sys2Proof.Machine.execSetAway tag onOrOff s
  | .extendEpisode tag => Sys2Proof.Machine.execExtendEpisode tag s
  | .ackLeak tag => Sys2Proof.Machine.execAckLeak tag s
  | .shutoffClose tag => Sys2Proof.Machine.execShutoffClose tag s
  | .shutoffOpen tag => Sys2Proof.Machine.execShutoffOpen tag s
  | .putFixture tag id rateLow rateHigh maxMinutes maxLitres hours awayAllowed => Sys2Proof.Machine.execPutFixture tag id rateLow rateHigh maxMinutes maxLitres hours awayAllowed s
  | .dropFixture tag id => Sys2Proof.Machine.execDropFixture tag id s
  | .getFixture tag id => Sys2Proof.Machine.execGetFixture tag id s
  | .enrolPod tag policy => Sys2Proof.Machine.execEnrolPod tag policy s
  | .retirePod tag address => Sys2Proof.Machine.execRetirePod tag address s
  | .ackPod tag address => Sys2Proof.Machine.execAckPod tag address s
  | .getPod tag address start => Sys2Proof.Machine.execGetPod tag address start s
  | .setPodPolicy tag address policy => Sys2Proof.Machine.execSetPodPolicy tag address policy s
  | .reset tag option => Sys2Proof.Machine.execReset tag option s
  | .linkReset => Sys2Proof.Machine.execLinkReset s
  | .syncByte => Sys2Proof.Machine.execSyncByte s

end Sys2Proof.Machine
end

