-- ==== Sys2Proof/Safety.lean ====
section
/-! DEFINITION. The terms in which the statements speak: a part that stands between two actions, the reply it sends, and
the laws the manual states of the whole part, each over the live state, the image and the image being written. -/

namespace Sys2Proof.Machine

/-! ## Between two actions -/

/-- ALARM and ATTN stand as their conditions give, deasserted while the part is held in reset, and no write trigger is
left over (R152, R176, R192). -/
abbrev LinesFollow (s : State) : Prop :=
  s.writeDue = false ∧
    s.alarm = (!held s && alarmLine s) ∧ s.link.attn = (!held s && attnLine s)

/-- What is under way in a state, and all that it sets out in its turn, comes to an end within n reports, answers and
re-evaluations, so that the bound of log 28 is not met. -/
def settles : Nat → State → Bool
  | 0, s => s.signals.isEmpty
  | n + 1, s =>
    match s.signals with
    | [] => true
    | sig :: rest => settles n (handle sig { s with signals := rest })

/-- A part that runs and stands between two actions: it is not held in reset, nothing that sets out within an action is
still under way, and its lines follow their conditions. -/
abbrev AtRest (s : State) : Prop := held s = false ∧ s.signals = [] ∧ LinesFollow s

/-- No frame is being collected beyond its sync byte, so that a frame that arrives is taken whole (R182, log 29). -/
abbrev Unoccupied (s : State) : Prop := s.link.rx = .hunt ∨ s.link.collected = []

/-- A part at rest whose link takes the next accepted frame as a request (R182, R184). -/
abbrev Listens (s : State) : Prop :=
  AtRest s ∧ s.link.state = .listening ∧ s.supply.regime ≠ .dormant ∧ Unoccupied s

/-- The link with a reply on its way: the receiver in HUNT, the link ANSWERING (R182, R184, R185). -/
def withReply (kind tag : Byte) (st : Status) (record : List Byte) (s : State) : State :=
  { s with
    link.rx := .hunt, link.collected := [], link.state := .answering
    link.reply := some (Link.frame kind tag (BitVec.ofNat 8 (statusCode st) :: record)) }

/-- The link begins to send a reply of this kind, tag, status and record (R184, R185). -/
def sending (kind tag : Byte) (st : Status) (record : List Byte) (s : State) : State :=
  { s with
    link.state := .answering
    link.reply := some (Link.frame kind tag (BitVec.ofNat 8 (statusCode st) :: record)) }

/-- A message whose own effect leaves this state is answered with a record read from the state in which its action ends,
after the follow-ups (R185). -/
abbrev Answers (c : Instr) (s : State) (kind tag : Byte) (st : Status) (record : State → List Byte) (u : State) :
    Prop :=
  u.link.rx = .hunt ∧ u.link.collected = [] ∧
    exec c s = .next (finish (sending kind tag st (record (deliver u)) (deliver u)))

/-- The reply on its way is this one. -/
abbrev Sends (kind tag : Byte) (st : Status) (record : List Byte) (t : State) : Prop :=
  t.link.state = .answering ∧ t.link.rx = .hunt ∧ t.link.collected = [] ∧
    t.link.reply = some (Link.frame kind tag (BitVec.ofNat 8 (statusCode st) :: record))

/-- What an hour-change publication of the Time Base brings, where one is made: the limit class of an episode that is not
FIXTURE is chosen again with its limits, a write falls due, and the grant is re-evaluated; where none is made, only a
changed setting makes a write fall due (R3, R6, R7, R133). -/
abbrev HourChange (made changed : Prop) (s u : State) : Prop :=
  let cls : LimitClass := if s.leak.away then .away else if quietNow u then .quiet else .active
  let limits := match cls with
    | .away => (s.settings.awayDuration, s.settings.awayVolume)
    | .quiet => (s.settings.quietDuration, s.settings.quietVolume)
    | _ => (s.settings.activeDuration, s.settings.activeVolume)
  (u.writeDue = true ↔ made ∨ changed) ∧
    (made → u.signals = [.regrant] ∧ { u.leak with episode := s.leak.episode } = s.leak ∧
      u.leak.episode = s.leak.episode.map fun e => if e.cls = .fixture then e else { e with
        cls := cls
        durationLimit := (if e.extended then 2 else 1) * limits.1
        volumeLimit := (if e.extended then 2 else 1) * limits.2 }) ∧
    (¬made → u.signals = [] ∧ u.leak = s.leak)

/-- A run of this unit, its current slot this one, has just been aborted with PROGRAMME_ERROR and this detail: it stands
in FINISHING with that outcome and its finishing move asked for, or, where its valve stands at its service position, it
is over, RUN_ABORTED raised and the unit under a PROGRAMME_EDIT hold of class REQUIRED, unless it is a tank that stays
STANDBY (R70, R82, R83, R85). -/
abbrev ProgrammeAborted (unit : HeadUnit) (stays : Prop) (slot : Nat) (detail : AbortDetail) (s u : State) : Prop :=
  u.writeDue = true ∧
    (isAt unit.valve (restPosition unit) s = false →
      ∃ c a, u.run.ctx = some c ∧ u.run.copy ≠ none ∧ c.unit = unit ∧ c.state = .finishing ∧ c.slot = none ∧
        c.outcome = some (.aborted a) ∧ a.reason = .programmeError ∧ a.detail = detail ∧ a.slot = slot ∧
        c.awaited = some ⟨unit.valve, restPosition unit, .finish⟩) ∧
    (isAt unit.valve (restPosition unit) s = true →
      u.run.ctx = none ∧ u.run.copy = none ∧ u.queue.grant = none ∧
        (∃ p ∈ u.link.events, eventCode p.event = 0x0D) ∧
        (¬stays → ⟨unit, .required, .programmeEdit⟩ ∈ u.run.holds))

/-- The commands that are an accepted frame of the service link (R184, R185, R195). -/
def isMessage : Instr → Bool
  | .badKind .. => true
  | .badLength .. => true
  | .identify .. => true
  | .getStatus .. => true
  | .getFlow .. => true
  | .getTanks .. => true
  | .getSalt .. => true
  | .getFilter .. => true
  | .getQueue .. => true
  | .getRun .. => true
  | .getEvents .. => true
  | .peekEvents .. => true
  | .setAttentionMask .. => true
  | .setParam .. => true
  | .getParam .. => true
  | .setTime .. => true
  | .setQuietMap .. => true
  | .getQuietMap .. => true
  | .putStep .. => true
  | .getStep .. => true
  | .setEntry .. => true
  | .requestRegen .. => true
  | .requestBackwash .. => true
  | .cancelRun .. => true
  | .clearFault .. => true
  | .enableProbe .. => true
  | .saltAdded .. => true
  | .ackSalt .. => true
  | .clearBridge .. => true
  | .setAway .. => true
  | .extendEpisode .. => true
  | .ackLeak .. => true
  | .shutoffClose .. => true
  | .shutoffOpen .. => true
  | .putFixture .. => true
  | .dropFixture .. => true
  | .getFixture .. => true
  | .enrolPod .. => true
  | .retirePod .. => true
  | .ackPod .. => true
  | .getPod .. => true
  | .setPodPolicy .. => true
  | .reset .. => true
  | _ => false

/-- The seconds from day 0, 00:00:00 to a time of week (R2). -/
def secondOfWeek (c : TimeOfWeek) : Nat := ((c.day * 24 + c.hour) * 60 + c.minute) * 60 + c.second

/-- A clock in the ranges of R2. -/
abbrev ClockInRange (c : TimeOfWeek) : Prop := c.day ≤ 6 ∧ c.hour ≤ 23 ∧ c.minute ≤ 59 ∧ c.second ≤ 59

/-- A write trigger has reached the Store: a write begun with the contents of this state, or the further-write flag
where a write was in progress (R176). -/
abbrev Written (s t : State) : Prop :=
  match s.store.writing with
  | some img => t.store.writing = some img ∧ t.store.further = true ∧ t.store.image = s.store.image
  | none => t.store.writing = some (capture t) ∧ t.store.further = s.store.further ∧ t.store.image = s.store.image

/-! ## The tanks (R22, R26, R28) -/

/-- Exactly one of two tank records is IN_SERVICE (R22). -/
abbrev OneServes (a b : TankRec) : Prop := a.role = .inService ↔ b.role ≠ .inService

/-- Exactly one tank serves, in the live records, in the image, and in the image being written. -/
def OneTankServes (s : State) : Prop :=
  OneServes s.bed.tankA s.bed.tankB ∧
    (∀ img, s.store.image = some img → OneServes img.tankA img.tankB) ∧
    (∀ img, s.store.writing = some img → OneServes img.tankA img.tankB)

/-- Every setting lies in its range (R186, R187). -/
abbrev SettingsInRange (c : Settings) : Prop :=
  ∀ p ∈ paramList, (paramRange p).1 ≤ settingValue p c ∧ settingValue p c ≤ (paramRange p).2

/-- A tank's figures keep R ≤ credit ≤ nominal capacity (R28). -/
abbrev TankWithin (r : TankRec) (c : Settings) : Prop :=
  r.remaining ≤ r.credit ∧ r.credit ≤ c.nominalCapacity

/-- Settings, correction factor and tank figures in their ranges, and both tables at their sixteen slots (R64, R134). -/
abbrev FiguresInRange (c : Settings) (factor : Nat) (a b : TankRec) (table : List (Option Step))
    (fixtures : List (Option Fixture)) : Prop :=
  SettingsInRange c ∧ 128 ≤ factor ∧ factor ≤ 512 ∧ TankWithin a c ∧ TankWithin b c ∧
    table.length = 16 ∧ fixtures.length = 16

/-- The figures of an image are in their ranges. -/
abbrev ImageInRange (img : Image) : Prop :=
  FiguresInRange img.settings img.factor img.tankA img.tankB img.table img.fixtures

/-- Clock, window and figures are in their ranges, in the live records, in the image, and in the image being
written. -/
def AllInRange (s : State) : Prop :=
  ClockInRange s.time.clock ∧ s.meter.window.length ≤ 5 ∧ (∀ v ∈ s.meter.window, v ≤ 5000) ∧
    FiguresInRange s.settings s.bed.factor s.bed.tankA s.bed.tankB s.run.table s.leak.fixtures ∧
    (∀ img, s.store.image = some img → ImageInRange img) ∧
    (∀ img, s.store.writing = some img → ImageInRange img)

/-! ## The queue and the run (R87, R93, R100) -/

/-- At most one entry for each unit (R87), and none for the unit of the run (R90, R100). -/
abbrev EntriesAgree (entries : List Entry) (run : Option HeadUnit) : Prop :=
  (entries.map (·.unit)).Nodup ∧ ∀ e ∈ entries, some e.unit ≠ run

/-- The drain grant names the unit of the run, the step-entry copy no other unit, and the entries agree with it, in the
live state, in the image, and in the image being written. -/
def QueueAgreesWithRun (s : State) : Prop :=
  s.queue.grant = s.run.ctx.map (·.unit) ∧
    (∀ c, s.run.copy = some c → s.run.ctx.map (·.unit) = some c.unit) ∧
    EntriesAgree s.queue.entries (s.run.ctx.map (·.unit)) ∧
    (∀ img, s.store.image = some img → EntriesAgree img.entries (img.copy.map (·.unit))) ∧
    (∀ img, s.store.writing = some img → EntriesAgree img.entries (img.copy.map (·.unit)))

/-! ## The valves (R118) -/

/-- A valve is MOVING only while its move holds the driver, and the move of a first attempt has not turned its valve
before DRIVE; held in reset, no move holds the driver (R118, R119, R129). -/
def MovingHoldsDriver (s : State) : Prop :=
  match s.valves.grant with
  | none => held s = true ∨ ∀ v, (valveRec v s).status ≠ .moving
  | some g =>
    held s = false ∧ (∀ v, (valveRec v s).status = .moving → v = g.valve) ∧
      (g.retry = false → g.phase = .settle ∨ g.phase = .recheck → (valveRec g.valve s).status ≠ .moving)

/-! ## The leak state (R142, R146) -/

/-- LEAK is in the close-reason set just while the leak state is ISOLATING or ISOLATED (R142, R143, R148, R153). -/
abbrev LeakLaw (s : State) : Prop :=
  s.leak.closeSet.leak = true ↔ s.leak.state = .isolating ∨ s.leak.state = .isolated

/-! ## The events (R188) -/

/-- Kind codes stand strictly ascending, and every count lies between 1 and 255 (R188). -/
abbrev EventSetOrdered (s : State) : Prop :=
  (s.link.events.map (fun p => eventCode p.event)).Pairwise (· < ·) ∧
    ∀ p ∈ s.link.events, 1 ≤ p.count ∧ p.count ≤ 255

end Sys2Proof.Machine
end

