-- ==== Sys2Proof/WellFormed.lean ====
section
/-! DEFINITION. Which commands are well formed: the operands a sensor, a pod or the link can deliver. A command that
is not well formed stands for no input the part can receive; its meaning is still total. -/

namespace Sys2Proof

/-- No entry of an order stands twice. -/
def distinct {α : Type} [BEq α] : List α → Bool
  | [] => true
  | x :: xs => !xs.contains x && distinct xs

/-- A reading some valve's sense can give: ten positions and ten spans at most (R113). -/
def Reading.inRange : Reading → Bool
  | .pos p => p < 10
  | .span d => d < 10
  | .invalid => true

/-- How many positions a valve has (R113). -/
def Valve.positions : Valve → Nat
  | .shut => 2
  | .flt => 4
  | .soft => 10

/-- A reading the sense of this valve can give; only the disc of V_SOFT has a span after its last position (R113). -/
def Reading.fits (v : Valve) : Reading → Bool
  | .pos p => p < v.positions
  | .span d => if v = .soft then d < 10 else d + 1 < v.positions
  | .invalid => true

/-- A pod's figures in the ranges of R156. -/
def PodReport.inRange (r : PodReport) : Bool :=
  r.battery.all (· ≤ 65535) && r.temperature.all (fun t => -80 ≤ t && t ≤ 200)

/-- A serial of 32 bits (R156). -/
def serialInRange (s : Option Nat) : Bool := s.all (· ≤ 4294967295)

/-- A loop address, or 0 where it was given up (R155). -/
def addressInRange (a : Option Nat) : Bool := a.all (· ≤ 63)

/-- The checks on a command's operands. -/
def Instr.wf : Instr → Bool
  | .secondTick order => distinct order
  | .meteringIntervalExpiry order => distinct order
  | .pollEnd (.clean r) => r.inRange
  | .enrolDiscoverEnd s => serialInRange s
  | .recoveryDiscoverEnd s => serialInRange s
  | .enrolAssignEnd a => addressInRange a
  | .recoveryAssignEnd a => addressInRange a
  | .releaseAssignEnd a => addressInRange a
  | .moveGrant a b c => a.fits .shut && b.fits .flt && c.fits .soft
  | .settleEnd r => r.inRange
  | .driveTimeout r => r.inRange
  | .extendStall r => r.inRange
  | .badKind _ kind => (Link.requestLength kind).isNone
  | .badLength _ kind n =>
      n ≤ Config.maxPayload && (Link.requestLength kind).isSome && Link.requestLength kind != some n
  | _ => true

end Sys2Proof
end

