-- ==== Sys2Proof/Certificates/Slice0/Obligations.lean ====
section
/-! DEFINITION. The statements for the provers. -/

open Sys2Proof Sys2Proof.Machine

/-! ## The queue of commands and the end of an action -/

/-- Commands are taken first in, first out: a step runs the command at the front with the rest of the queue, and an
empty queue idles (log 2). -/
def Obligations.StepRunsTheFrontCommand : Prop :=
  (∀ (c : Instr) (rest : List Instr) (s : State),
    step { s with pending := c :: rest } = exec c { s with pending := rest }) ∧
  (∀ s : State, s.pending = [] → step s = .next s)

/-- No command ends in a fault or a refusal, and none touches the queue of commands that wait: exec runs a whole action
at once (log 1). -/
def Obligations.EveryCommandCompletesAndKeepsTheQueue : Prop :=
  ∀ (c : Instr) (s : State), ∃ t, exec c s = .next t ∧ t.pending = s.pending

/-- R176: a write trigger begins a write with the contents of the moment, or sets the further-write flag; triggers that
come together fall into one write (log 16); at its end the image is the one written, and a further write takes the
contents of that moment. -/
def Obligations.WritesOfTheSnapshotStore : Prop :=
  (∀ s : State, AtRest s → finish (writeTrigger (writeTrigger s)) = finish (writeTrigger s)) ∧
  (∀ s : State, AtRest s → ∃ t, finish (writeTrigger s) = t ∧ Written s t ∧ t.writeDue = false ∧
    { t with store := s.store, alarm := s.alarm, link.attn := s.link.attn } = s) ∧
  (∀ (img : Image) (s : State), held s = false → s.resets.held = none → s.store.writing = some img →
    exec .writeEnd s = .next { s with store :=
      { image := some img, further := false
        writing := if s.store.further then some (capture s) else none } })

/-! ## Chapter 1 -/

/-- R2, R3, R4: at a second of the time base the clock advances by one second of the week, the restart counter counts,
the clock-set flag stands, and the usage day closes at midnight alone; in reset only the clock of a part that has kept
it counts on, and nothing is published (log 8). Every one of the five blocks takes the second once, in the order given
and then in the block order (log 3), each by its own block's second; the driver's phases are commands (log 10) and the
Leak Monitor counts samples (R16), so neither takes a second of its own. At an hour change the limit class is chosen
again (R133), the Store and the grant act, the grant after the day rollover (log 53); at midnight the salt day closes
(R58) and the filter day counts (R106), and at no other second. -/
def Obligations.SecondAdvancesClockAndDay : Prop :=
  (∀ (order : List TickReader) (s : State), held s = false → ClockInRange s.time.clock →
    ∃ t, exec (.secondTick order) s = .next t ∧
      ClockInRange t.time.clock ∧
      secondOfWeek t.time.clock = (secondOfWeek s.time.clock + 1) % 604800 ∧
      t.time.clock.clockSet = s.time.clock.clockSet ∧
      t.time.counter = min 4294967295 (s.time.counter + 1) ∧
      t.time.quietMap = s.time.quietMap ∧
      (if secondOfWeek t.time.clock % 86400 = 0 then
        t.meter.days = (s.meter.days ++ [s.meter.dayAccum / 1000]).drop (s.meter.days.length + 1 - 7) ∧
          t.meter.dayAccum = s.meter.dayAccum % 1000
      else t.meter = s.meter)) ∧
  (∀ (order : List TickReader) (s : State) (call : ResetCall), s.resets.inReset = some call →
    ClockInRange s.time.clock →
    ∃ t, exec (.secondTick order) s = .next t ∧ { t with time.clock := s.time.clock } = s ∧
      t.time.clock.clockSet = s.time.clock.clockSet ∧
      secondOfWeek t.time.clock =
        if call.kind = .supply then secondOfWeek s.time.clock else (secondOfWeek s.time.clock + 1) % 604800) ∧
  (∀ (order : List TickReader) (s : State), held s = false →
    exec (.secondTick order) s =
      .next (finish ((takingOrder order allTickReaders).foldl (fun u r => deliver (match r with
        | .timeBase => timeSecond u
        | .brine => brineSecond u
        | .queue => queueSecond u
        | .supply => supplySecond u
        | .loop => loopSecond u)) s)) ∧
    (takingOrder order allTickReaders).Perm [.timeBase, .brine, .queue, .supply, .loop] ∧
    (order.Nodup → ∃ rest, takingOrder order allTickReaders = order ++ rest)) ∧
  (∀ s : State, ClockInRange s.time.clock →
    let c := s.time.clock
    let t := timeSecond s
    (c.minute ≠ 59 ∨ c.second ≠ 59 → t = advanceClock s) ∧
    (c.minute = 59 → c.second = 59 →
      t.leak = (rechooseClass (advanceClock s)).leak ∧ t.writeDue = true ∧ Signal.regrant ∈ t.signals ∧
      (c.hour ≠ 23 → t.brine = s.brine ∧ t.filter = s.filter) ∧
      (c.hour = 23 →
        t.brine.ring = s.brine.ring.drop 1 ++ [s.brine.accum] ∧ t.brine.accum = 0 ∧ t.brine.stage = stageFound t ∧
        { t.brine with
          ring := s.brine.ring, accum := s.brine.accum, stage := s.brine.stage, reminder := s.brine.reminder
          snooze := s.brine.snooze } = s.brine ∧
        t.filter = { s.filter with days := min 65535 (s.filter.days + 1) })))

/-- R10: at an expiry the counts become the supply figure and, unless R12 puts the nominal figure in its place, the
drain figure; the residues are kept, or dropped where the figure is cut at 5000 mL; after every reset they are 0. -/
def Obligations.PulsesBecomeMillilitres : Prop :=
  (∀ (order : List SampleReader) (s : State), held s = false →
    0 < s.settings.supplyK → 0 < s.settings.drainK →
    ∃ t x, exec (.meteringIntervalExpiry order) s = .next t ∧ t.meter.latest = some x ∧
      t.meter.supplyCount = 0 ∧ t.meter.drainCount = 0 ∧
      x.time = s.time.counter ∧
      (let n := s.meter.supplyCount * 1000 + s.meter.supplyResidue
       if 5000 < n / s.settings.supplyK then x.supply = 5000 ∧ t.meter.supplyResidue = 0
       else x.supply = n / s.settings.supplyK ∧ t.meter.supplyResidue = n % s.settings.supplyK ∧
         t.meter.supplyResidue ≤ s.settings.supplyK - 1 ∧
         x.supply * s.settings.supplyK + t.meter.supplyResidue = n) ∧
      (let n := s.meter.drainCount * 1000 + s.meter.drainResidue
       if 5000 < n / s.settings.drainK then t.meter.drainResidue = 0 ∧ (x.drainValid = true ∨ drainUsing s = none → x.drain = 5000)
       else t.meter.drainResidue = n % s.settings.drainK ∧ t.meter.drainResidue ≤ s.settings.drainK - 1 ∧
         (x.drainValid = true ∨ drainUsing s = none → x.drain = n / s.settings.drainK))) ∧
  (∀ s : State, held s = true →
    ∃ t, exec .restart s = .next t ∧ t.meter.supplyResidue = 0 ∧ t.meter.drainResidue = 0)

/-- R14, R15, R17: in every flow sample household + drain + refill − deficit = supply, household and deficit are never
both above zero, the deficit joins the counter and the household figure the day; the household figure joins the window
of five, and the rate is the window's sum × 12 div 100. R16: the sample goes to each of its readers once, in the order
given and then in the block order, the measures of the Filter Monitor before its request (log 3): an order without
repeats that leaves them so is followed as given. Every reader takes the sample with V_FLT's status at the expiry
(R105). -/
def Obligations.SampleSplitsTheSupplyAndFormsTheRate : Prop :=
  (∀ (order : List SampleReader) (s : State), held s = false →
     ∃ t x, exec (.meteringIntervalExpiry order) s = .next t ∧ t.meter.latest = some x ∧
       x.household + x.drain + x.refill = x.supply + x.deficit ∧
       (x.household = 0 ∨ x.deficit = 0) ∧
       t.meter.deficit = min 4294967295 (s.meter.deficit + x.deficit) ∧
       (s.meter.dayAccum + x.household ≤ 432000000 → t.meter.dayAccum = s.meter.dayAccum + x.household)) ∧
  (∀ (order : List SampleReader) (s : State), held s = false → s.meter.window.length ≤ 5 →
     ∃ t x, exec (.meteringIntervalExpiry order) s = .next t ∧ t.meter.latest = some x ∧
       t.meter.window.length = min 5 (s.meter.window.length + 1) ∧
       t.meter.window = (if s.meter.window.length = 5 then s.meter.window.tail else s.meter.window) ++ [x.household] ∧
       x.rate = t.meter.window.sum * 12 / 100 ∧
       ((∀ v ∈ s.meter.window, v ≤ 5000) → x.rate ≤ 3000)) ∧
  (∀ (order : List SampleReader) (s : State), held s = false →
     let taken := sampleOrder order
     (closeInterval s).2.meter.latest = some (closeInterval s).1 ∧
     exec (.meteringIntervalExpiry order) s = .next (finish
       (taken.foldl (fun u r => deliver (samplePart (isAt .flt 0 s) (closeInterval s).1 r u)) (closeInterval s).2)) ∧
     taken.Perm [.bed, .run, .leak, .filter, .filterRequest, .queue] ∧
     (∃ front mid back, taken = front ++ .filter :: mid ++ .filterRequest :: back) ∧
     (order.Nodup → (∀ front back, order = front ++ .filterRequest :: back → .filter ∈ front) →
       ∃ rest, taken = order ++ rest))

/-- R9, R11, R12, R13: a pulse is counted, saturating, and nothing else changes; the refill figure follows the valves,
the nominal drain figure stands for the measured one only with an invalid meter in a drain-using step, the zero-drain
count brings the meter down at 60 and a pulse brings it back. The expiry that brings it down raises METER_FAULT, with
the unit and the phase, before the sample is published; no other expiry does. The command METER_FAULT raises it where
the count stands at 60 in a drain-using step with a valid meter, and elsewhere finds nothing to do (log 1); no pulse
counts in reset (log 8). -/
def Obligations.DrainMeterAndItsFault : Prop :=
  (∀ s : State,
     (AtRest s →
       exec (.meterPulse .supply) s = .next { s with meter.supplyCount := min 65535 (s.meter.supplyCount + 1) } ∧
       exec (.meterPulse .drain) s = .next { s with meter.drainCount := min 65535 (s.meter.drainCount + 1) }) ∧
     (held s = true → ∀ m, exec (.meterPulse m) s = .next s)) ∧
  (∀ (order : List SampleReader) (s : State), held s = false →
     ∃ t x, exec (.meteringIntervalExpiry order) s = .next t ∧ t.meter.latest = some x ∧
       x.refill = (if (isAt .soft 5 s = true ∨ isAt .soft 9 s = true) ∧ isAt .shut 0 s = true
         then s.settings.refillRate else 0) ∧
       x.drainValid = t.meter.drainValid ∧
       (x.drainValid = false → drainUsing s ≠ none → x.drain = s.settings.nominalDrain * 100 / 60) ∧
       (0 < s.meter.drainCount → t.meter.drainValid = true ∧ t.meter.zeroDrain = 0) ∧
       (s.meter.drainCount = 0 → drainUsing s = none →
         t.meter.drainValid = s.meter.drainValid ∧ t.meter.zeroDrain = 0) ∧
       (s.meter.drainCount = 0 → drainUsing s ≠ none → s.meter.drainValid = true →
         t.meter.zeroDrain = min 60 (s.meter.zeroDrain + 1) ∧
           t.meter.drainValid = decide (s.meter.zeroDrain + 1 < 60)) ∧
       (s.meter.drainCount = 0 → drainUsing s ≠ none → s.meter.drainValid = false →
         t.meter.zeroDrain = s.meter.zeroDrain ∧ t.meter.drainValid = false)) ∧
  (∀ s : State,
     let published := (closeInterval s).2
     (∀ u p, drainUsing s = some (u, p) → s.meter.drainCount = 0 → s.meter.drainValid = true →
       59 ≤ s.meter.zeroDrain →
       published.link =
         { s.link with events := insertEvent s.time.counter (.meterFault .drain u p) s.link.events }) ∧
     (drainUsing s = none ∨ 0 < s.meter.drainCount ∨ s.meter.drainValid = false ∨ s.meter.zeroDrain < 59 →
       published.link = s.link)) ∧
  (∀ s : State, AtRest s →
     (∀ u p, drainUsing s = some (u, p) → 60 ≤ s.meter.zeroDrain → s.meter.drainValid = true →
       exec .meterFault s = .next (refreshLines { s with
         meter.drainValid := false
         link.events := insertEvent s.time.counter (.meterFault .drain u p) s.link.events })) ∧
     (drainUsing s = none ∨ s.meter.zeroDrain < 60 ∨ s.meter.drainValid = false → exec .meterFault s = .next s))

/-- R19, R20: a reading is clamped to its channel's rails; an unsaturated one makes the channel valid and the last good
value; the third saturated one in a row makes it invalid, with SENSOR_FAULT; no other channel changes. R37, R172, R48: a
reading of a probe channel goes on to Bed Accounting, of BATT to the Supply Monitor, of LEVEL to the Brine Monitor, and
a pressure reading waits for the sample that uses it (R107). -/
def Obligations.ReadingUpdatesItsChannel : Prop :=
  ∀ (c : Channel) (raw : Int) (s : State), held s = false →
    ∃ t, exec (.channelReading c raw) s = .next t ∧
      (∀ d, d ≠ c → channelRec d t = channelRec d s) ∧
      (channelRec c t).value = some (max (rails c).1 (min (rails c).2 raw)).toNat ∧
      (if raw ≤ (rails c).1 ∨ (rails c).2 ≤ raw then
        (channelRec c t).saturated = min 3 ((channelRec c s).saturated + 1) ∧
          (channelRec c t).lastGood = (channelRec c s).lastGood ∧
          (channelRec c t).valid = ((channelRec c s).valid && decide ((channelRec c s).saturated + 1 < 3))
      else
        (channelRec c t).saturated = 0 ∧ (channelRec c t).lastGood = some raw.toNat ∧
          (channelRec c t).valid = true) ∧
      (let u := scanChannel c raw s
       exec (.channelReading c raw) s = .next (finish (match c with
         | .pIn => u
         | .pOut => u
         | .probeA => probeReading .a u
         | .probeB => probeReading .b u
         | .batt => battReading u
         | .level => levelReading u)) ∧
       (raw ≤ (rails c).1 ∨ (rails c).2 ≤ raw → (channelRec c s).saturated = 2 →
         u.link.events = insertEvent s.time.counter (.sensorFault c) s.link.events))

/-- R5, R6, R7: SET_TIME stores the clamped time, sets the flag and answers with the time stored; SET_QUIET_MAP stores
the map, a write trigger where it changes, and answers with an empty record; the counter, the usage day and the metering
interval stand. Where the hour of week or the quiet status is another one after it, either makes an hour-change
publication, and else none (R3, R133). The quiet status is quiet only with the clock set and the flag of the hour of
week set; at the factory map that is hours 0 to 5 of every day. -/
def Obligations.TimeMessagesAndQuietStatus : Prop :=
  (∀ s : State, Listens s →
     (∀ tag day hour minute second : Byte, ∃ t, exec (.setTime tag day hour minute second) s = .next t ∧
       t.time = { s.time with clock :=
         ⟨min 6 day.toNat, min 23 hour.toNat, min 59 minute.toNat, min 59 second.toNat, true⟩ } ∧
       t.meter = s.meter ∧
       Sends 0x9A tag
         (if day.toNat ≤ 6 ∧ hour.toNat ≤ 23 ∧ minute.toNat ≤ 59 ∧ second.toNat ≤ 59 then .ok else .clamped)
         [BitVec.ofNat 8 (min 6 day.toNat), BitVec.ofNat 8 (min 23 hour.toNat),
           BitVec.ofNat 8 (min 59 minute.toNat), BitVec.ofNat 8 (min 59 second.toNat)] t) ∧
     (∀ (tag : Byte) (flags : BitVec 168), ∃ t, exec (.setQuietMap tag flags) s = .next t ∧
       t.time = { s.time with quietMap := flags } ∧ t.meter = s.meter ∧ Sends 0x9B tag .ok [] t) ∧
     (∀ tag day hour minute second : Byte,
       let stored : TimeOfWeek :=
         ⟨min 6 day.toNat, min 23 hour.toNat, min 59 minute.toNat, min 59 second.toNat, true⟩
       let clamped := 6 < day.toNat ∨ 23 < hour.toNat ∨ 59 < minute.toNat ∨ 59 < second.toNat
       ∃ u, Answers (.setTime tag day hour minute second) s 0x9A tag (if clamped then .clamped else .ok)
           (fun t => u8 t.time.clock.day ++ u8 t.time.clock.hour ++ u8 t.time.clock.minute ++ u8 t.time.clock.second)
           u ∧
         u.time = { s.time with clock := stored } ∧
         HourChange (hourOfWeek s.time.clock ≠ hourOfWeek stored ∨ quietNow s ≠ quietNow u) False s u ∧
         { u with time := s.time, leak := s.leak, link := s.link, writeDue := false, signals := [] } = s) ∧
     (∀ (tag : Byte) (flags : BitVec 168),
       ∃ u, Answers (.setQuietMap tag flags) s 0x9B tag .ok (fun _ => []) u ∧
         u.time = { s.time with quietMap := flags } ∧
         HourChange (quietNow s ≠ quietNow u) (flags ≠ s.time.quietMap) s u ∧
         { u with time := s.time, leak := s.leak, link := s.link, writeDue := false, signals := [] } = s)) ∧
  ((∀ s : State, s.time.clock.clockSet = false → quietNow s = false) ∧
   (∀ s : State, s.time.clock.clockSet = true →
     quietNow s = s.time.quietMap.getLsbD (s.time.clock.day * 24 + s.time.clock.hour)) ∧
   (∀ day hour, day ≤ 6 → hour ≤ 23 → factoryQuietMap.getLsbD (day * 24 + hour) = decide (hour ≤ 5)))

/-! ## Chapter 2 -/

/-- R27, R28, R30, R31, R32: the household figure is charged to the serving tank alone, exactly, with its residue, and
an exhausted bed adds to the hard-water volume; a recomputation sets the reserve to the larger of floor and need, at
most the credit, and grades the serving tank against it; the grades of R and the queue class each maps to. R31, R32,
R33, R36: Bed Accounting's turn of a flow sample charges the load and grades the serving tank; a change of grade raises
the class of the waiting tank's entry to the new metered class; a SPENT serving tank has the changeover to a STANDBY
tank requested, unless one is pending or V_SOFT is in FAULT, which begins HARD_WATER with changeover fault no (log 50),
as a change to SPENT does while the other tank is not STANDBY. -/
def Obligations.LoadReserveAndUrgency : Prop :=
  (∀ (household : Nat) (s : State),
     let x := servingTank s
     let r := tankRec x s
     let t := chargeLoad household s
     let n := household * s.bed.compensated * s.bed.factor + r.residue
     let charged := n / 25600000
     tankRec x t = { r with remaining := r.remaining - charged, residue := n % 25600000 } ∧
       charged * 25600000 + (tankRec x t).residue = n ∧
       (tankRec x t).residue ≤ 25599999 ∧
       tankRec x.other t = tankRec x.other s ∧
       t.bed.hardVolume = (if r.remaining ≤ charged then min 4294967295 (s.bed.hardVolume + household)
         else s.bed.hardVolume) ∧
       { t with bed.tankA := s.bed.tankA, bed.tankB := s.bed.tankB, bed.hardVolume := s.bed.hardVolume } = s) ∧
  (∀ s : State,
     let credit := (tankRec (servingTank s) s).credit
     let avg := if s.meter.days = [] then s.settings.assumedUse else s.meter.days.sum / s.meter.days.length
     let t := recomputeReserve s
     t.bed.reserve = min credit
         (max (credit * s.settings.minReserve / 100) (avg * s.bed.compensated * s.bed.factor / 25600)) ∧
       t.bed.reserve ≤ credit ∧
       servingTank t = servingTank s ∧
       tankRec (servingTank s) t =
         { tankRec (servingTank s) s with
           urgency := urgencyGrade (tankRec (servingTank s) s).remaining t.bed.reserve } ∧
       tankRec (servingTank s).other t = tankRec (servingTank s).other s ∧
       t.bed.factor = s.bed.factor ∧ t.bed.compensated = s.bed.compensated ∧ t.settings = s.settings ∧
       t.meter = s.meter ∧ t.leak = s.leak ∧ t.brine = s.brine) ∧
  (∀ (x : Sample) (s : State),
     let charged := chargeLoad x.household s
     let serving := servingTank s
     let other := tankRec serving.other s
     let before := (tankRec serving s).urgency
     let grade := urgencyGrade (tankRec serving charged).remaining s.bed.reserve
     let paired := grade = .spent ∧ other.role = .standby ∧ s.bed.changePending = false
     let stuck := paired ∧ (valveRec .soft s).status = .fault
     let alone := grade = .spent ∧ grade ≠ before ∧ other.role ≠ .standby
     let u := bedSample x s
     tankRec serving u = { tankRec serving charged with urgency := grade } ∧ tankRec serving.other u = other ∧
       u.bed.reserve = s.bed.reserve ∧ u.bed.hardVolume = charged.bed.hardVolume ∧
       (∀ e, grade ≠ before → other.role = .waiting → s.run.ctx.map (·.unit) ≠ some serving.other.unit →
         (∀ h ∈ s.run.holds, h.unit ≠ serving.other.unit) → entryOf serving.other.unit s = some e →
         { e with cls := higherCls e.cls (meteredClass grade) } ∈ u.queue.entries) ∧
       (grade = before ∨ other.role ≠ .waiting ∨ entryOf serving.other.unit s = none → u.queue = s.queue) ∧
       (paired → ¬stuck → u.bed.changePending = true ∧ u.bed.changeClass = none ∧
         u.valves = (postRequest .soft (servicePos serving.other) .changeover .bedAccounting s).valves) ∧
       (¬paired ∨ stuck → u.bed.changePending = s.bed.changePending ∧ u.bed.changeClass = s.bed.changeClass ∧
         u.valves = s.valves) ∧
       (alone ∨ stuck → u.bed.hardWater = true ∧ (s.bed.hardWater = false → u.link.events =
         insertEvent s.time.counter (.hardWater serving other.role false) s.link.events)) ∧
       (¬alone → ¬stuck → u.bed.hardWater = s.bed.hardWater ∧ u.link = s.link)) ∧
  (∀ r reserve : Nat,
     (urgencyGrade r reserve = .ample ↔ 2 * reserve < r) ∧
     (urgencyGrade r reserve = .due ↔ reserve < r ∧ r ≤ 2 * reserve) ∧
     (urgencyGrade r reserve = .short ↔ 0 < r ∧ r ≤ reserve) ∧
     (urgencyGrade r reserve = .spent ↔ r = 0) ∧
     (meteredClass (urgencyGrade r reserve) = .required ↔ r ≤ reserve ∨ r = 0) ∧
     (meteredClass (urgencyGrade r reserve) = .optional ↔ 2 * reserve < r))

/-- R22, R34: where a changeover stands completed, the roles pass, the probe of the tank entering service is armed and
the other's disarmed, HARD_WATER is in force just where the new serving tank holds nothing, CHANGEOVER is raised and the
tank leaving service is queued; elsewhere the command finds nothing to do (log 1). R34, R35: the Valve Drive's answer to
the changeover request, handled within the action that answers it, does so too: completion, where the changeover is
pending and its target STANDBY (log 27), does what the command does; a fault or set aside drops the record, and a fault
with the serving tank SPENT begins HARD_WATER; an answer to a standing target asks nothing of Bed Accounting. -/
def Obligations.ChangeoverPassesTheService : Prop :=
  (∀ s : State, AtRest s → OneServes s.bed.tankA s.bed.tankB →
    let x := servingTank s
    let y := x.other
    (s.bed.changePending = true → (tankRec y s).role = .standby → isAt .soft (servicePos y) s = true →
      ∃ u, exec .changeoverComplete s = .next (finish u) ∧
        servingTank u = y ∧
        tankRec x u = { tankRec x s with role := .waiting, probeArmed := false, deviation := 0 } ∧
        tankRec y u = { tankRec y s with
          role := .inService, rinseIncomplete := false
          probeArmed := (tankRec y s).probeArmed || ((tankRec y s).probeEnabled && decide (0 < (tankRec y s).credit))
          urgency := urgencyGrade (tankRec y s).remaining u.bed.reserve } ∧
        u.bed.hardWater = decide ((tankRec y s).remaining = 0) ∧
        u.bed.changePending = false ∧ u.bed.changeClass = none ∧ u.bed.factor = s.bed.factor ∧
        u.writeDue = true ∧ (∃ p ∈ u.link.events, eventCode p.event = 7) ∧
        (s.run.ctx.map (·.unit) ≠ some x.unit → (∀ h ∈ s.run.holds, h.unit ≠ x.unit) →
          (∀ e ∈ s.queue.entries, e.unit ≠ x.unit) →
          ∃ e ∈ u.queue.entries, e.unit = x.unit ∧ e.age = 0 ∧
            e.cls = (match s.bed.changeClass with
              | none => meteredClass (tankRec y u).urgency
              | some asked => higherCls (meteredClass (tankRec y u).urgency) asked) ∧
            e.reason = (if s.bed.changeClass = none then .metered else .commanded))) ∧
    (s.bed.changePending = false ∨ (tankRec y s).role ≠ .standby ∨ isAt .soft (servicePos y) s = false →
      exec .changeoverComplete s = .next s)) ∧
  (∀ (v : Valve) (r : MoveReq) (s : State), r.requester = .bedAccounting →
    let x := servingTank s
    let y := x.other
    let answered := fun (res : Answer) => handle (.answer v r res) s
    let dropped : State := { s with bed.changePending := false, bed.changeClass := none }
    let opened := s.bed.changePending = true ∧ (tankRec y s).role = .standby ∧ r.target = servicePos y
    (r.cls ≠ .changeover → ∀ res, answered res = s) ∧
    (r.cls = .changeover →
      answered .setAside = dropped ∧
      ((tankRec x s).urgency ≠ .spent ∨ s.bed.hardWater = true → answered .fault = dropped) ∧
      ((tankRec x s).urgency = .spent → s.bed.hardWater = false → answered .fault = { dropped with
        bed.hardWater := true
        link.events := insertEvent s.time.counter (.hardWater x (tankRec y s).role true) s.link.events }) ∧
      (¬opened → answered .completion = s) ∧
      (opened → OneServes s.bed.tankA s.bed.tankB →
        servingTank (answered .completion) = y ∧ (answered .completion).bed.changePending = false ∧
          (AtRest s → isAt .soft (servicePos y) s = true →
            exec .changeoverComplete s = .next (finish (answered .completion))))))

/-- R37, R38, R39, R41: a reading that is not evaluated or does not qualify sets the deviation count to 0, a qualifying
one raises it, and the third trips the probe. A trip with too little estimated use takes the probe out of use and
changes nothing else; any other corrects C by a quarter of what it observed and R to the probe's share of the credit,
and disarms the probe. ENABLE_PROBE sets the enabled flag, clears the deviation count, arms the probe of a serving tank,
and is a write trigger where either flag moves; a byte that names no tank is refused. -/
def Obligations.ProbeTripAndEnableProbe : Prop :=
  (∀ (t : Tank) (s : State), AtRest s → OneServes s.bed.tankA s.bed.tankB →
     (tankRec t s).role = .inService → 3 ≤ (tankRec t s).deviation →
     let r := tankRec t s
     let probe := r.credit * s.settings.probeFraction / 100
     let used := r.credit - r.remaining
     (used < r.credit / 8 ∨ used = 0 →
       exec .probeTrip s = .next (finish { setTank t
         { r with probeEnabled := false, probeArmed := false, deviation := 0 } s with
         link.events := insertEvent s.time.counter (.probeFault t r.credit r.remaining) s.link.events
         writeDue := true })) ∧
     (r.credit / 8 ≤ used → used ≠ 0 →
       ∃ u, exec .probeTrip s = .next (finish u) ∧
         u.bed.factor =
           (3 * s.bed.factor + max 128 (min 512 (s.bed.factor * (r.credit - probe) / used))) / 4 ∧
         tankRec t u = { r with
           remaining := probe, probeArmed := false, deviation := 0
           urgency := urgencyGrade probe u.bed.reserve } ∧
         tankRec t.other u = tankRec t.other s ∧
         (0 < probe → u.bed.hardWater = false) ∧
         u.writeDue = true ∧ (∃ p ∈ u.link.events, eventCode p.event = 9) ∧
         u.brine = s.brine ∧ u.leak = s.leak ∧ u.meter = s.meter ∧ u.settings = s.settings)) ∧
  (∀ (tag tank : Byte) (s : State), Listens s →
     (∀ t, readTank tank = some t →
       let r := tankRec t s
       let r1 := { r with
         probeEnabled := true, deviation := 0, probeArmed := r.probeArmed || decide (r.role = .inService) }
       let u := withReply 0xAC tag .ok [1, if r1.probeArmed then 1 else 0] (setTank t r1 s)
       exec (.enableProbe tag tank) s =
         .next (if r.probeEnabled = true ∧ r.probeArmed = r1.probeArmed then u else beginWrite u)) ∧
     (readTank tank = none → exec (.enableProbe tag tank) s = .next (withReply 0xAC tag .badValue [] s))) ∧
  (∀ (t : Tank) (s : State),
     let r := tankRec t s
     let channel := channelRec (probeChannel t) s
     let evaluated := r.role = .inService ∧ r.probeEnabled = true ∧ r.probeArmed = true ∧ channel.valid = true
     let qualifies := (∃ v, channel.lastGood = some v ∧ s.settings.tripDelta ≤ max v 256 - min v 256) ∧
       ∃ x, s.meter.latest = some x ∧ 0 < x.household
     (¬(evaluated ∧ qualifies) → probeReading t s = setTank t { r with deviation := 0 } s) ∧
     (evaluated → qualifies → r.deviation < 2 →
       probeReading t s = setTank t { r with deviation := r.deviation + 1 } s) ∧
     (evaluated → qualifies → r.deviation = 2 → (t = .b → (tankRec .a s).deviation < 3) →
       AtRest s → exec .probeTrip (setTank t { r with deviation := 3 } s) = .next (finish (probeReading t s))))

/-! ## Chapter 3 -/

/-- R52: the salt dissolved is base × S div 256, where the strength factor S is the smallest of the factors that
apply. -/
def Obligations.SaltDissolvedByTheWeakestFactor : Prop :=
  ∀ s : State,
    let base := s.brine.volume * 317 / 1000
    let dwell := min 256 (s.brine.age * 256 / s.settings.fullDwell)
    ∃ strength, saltDissolved s = base * strength / 256 ∧
      strength ≤ dwell ∧
      (s.brine.bridge = true → strength ≤ s.settings.bridgeFactor) ∧
      (s.brine.stage = .out → strength ≤ s.settings.saltOutFactor) ∧
      (strength = dwell ∨ (s.brine.bridge = true ∧ strength = s.settings.bridgeFactor) ∨
        (s.brine.stage = .out ∧ strength = s.settings.saltOutFactor))

/-- R53, R54, R55, R59: what a completed BRINE step leaves in the Brine Monitor, with the bridge test on the new
counters and the stage evaluated, and what an abort during BRINE leaves, which takes the part that was drawn; nothing
else changes but the events they raise. -/
def Obligations.BrineStepAccountsItsSalt : Prop :=
  (∀ (dissolved : Nat) (s : State),
     let t := brineCompletion dissolved s
     t.brine.model = s.brine.model - dissolved ∧
       t.brine.modelDrop = min 4294967295 (s.brine.modelDrop + (s.brine.model - t.brine.model)) ∧
       t.brine.accum = min 999999 (s.brine.accum + dissolved) ∧
       t.brine.volume = 0 ∧ t.brine.age = s.brine.age ∧
       t.brine.regens = min 255 (s.brine.regens + 1) ∧
       (t.brine.bridge = true ↔ s.brine.bridge = true ∨
         (s.brine.levelMass ≠ none ∧ s.brine.anchor ≠ none ∧ 3 ≤ t.brine.regens ∧ 4000 ≤ t.brine.modelDrop ∧
           s.brine.levelDrop < 1000)) ∧
       t.brine.stage = stageFound t ∧
       t.brine.levelMass = s.brine.levelMass ∧ t.brine.anchor = s.brine.anchor ∧ t.brine.ring = s.brine.ring ∧
       { t with brine := s.brine, link.events := s.link.events } = s) ∧
  (∀ (dissolved elapsed duration : Nat) (s : State),
     let part := dissolved * elapsed / duration
     let t := brineAbort dissolved elapsed duration s
     t.brine.model = s.brine.model - part ∧
       t.brine.modelDrop = min 4294967295 (s.brine.modelDrop + min s.brine.model part) ∧
       t.brine.accum = min 999999 (s.brine.accum + part) ∧
       t.brine.volume = s.brine.volume - s.brine.volume * elapsed / duration ∧
       t.brine.stage = stageFound t ∧ t.brine.regens = s.brine.regens ∧ t.brine.bridge = s.brine.bridge ∧
       { t with brine := s.brine, link.events := s.link.events } = s)

/-- R48, R49: an accepted reading becomes the level mass; a first one and one 5000 g above the comparison mass
rebaseline the model (log 30), one 1000 g below it breaks a suspected bridge; a reading taken while a BRINE or REFILL
step runs is passed over. A saturated reading that leaves the channel valid is taken by the channel's last good value,
and one of an invalid channel makes the level mass absent and has the stage evaluated. -/
def Obligations.LevelReadingIsReconciled : Prop :=
  (∀ (d : Nat) (s : State), AtRest s → 50 < d → d < 1500 →
    ∃ t, exec (.channelReading .level d) s = .next t ∧
      { t with brine := s.brine, analog := s.analog, link := s.link } = s ∧
      (if brineStepRunning s = true then t.brine = s.brine ∧ t.link = s.link
      else
        let level := (s.settings.depth - d) * s.settings.crossSection * s.settings.bulkDensity / 10000
        let rebaselined := t.brine.model = level ∧ t.brine.bridge = false ∧ t.brine.regens = 0 ∧
          t.brine.modelDrop = 0 ∧ t.brine.anchor = some level ∧ t.brine.levelDrop = 0
        t.brine.levelMass = some level ∧ t.brine.comparison = some level ∧ t.brine.stage = stageFound t ∧
        t.brine.volume = s.brine.volume ∧ t.brine.age = s.brine.age ∧ t.brine.ring = s.brine.ring ∧
        match s.brine.comparison with
        | none => rebaselined
        | some prev =>
          if prev + 5000 ≤ level then rebaselined ∧ ∃ p ∈ t.link.events, eventCode p.event = 0x14
          else t.brine.model = s.brine.model ∧ t.brine.regens = s.brine.regens ∧
            t.brine.modelDrop = s.brine.modelDrop ∧
            t.brine.bridge = (s.brine.bridge && decide (prev < level + 1000)) ∧
            t.brine.anchor = some (s.brine.anchor.getD level) ∧
            t.brine.levelDrop = s.brine.anchor.getD level - level)) ∧
  (∀ s : State,
    (s.analog.level.valid = false →
      let t := levelReading s
      t.brine.levelMass = none ∧ t.brine.stage = stageFound t ∧
        { t.brine with
          levelMass := s.brine.levelMass, stage := s.brine.stage, reminder := s.brine.reminder
          snooze := s.brine.snooze } = s.brine ∧
        { t with brine := s.brine, link.events := s.link.events } = s) ∧
    (s.analog.level.valid = true → brineStepRunning s = true → levelReading s = s) ∧
    (∀ d, s.analog.level.valid = true → brineStepRunning s = false → s.analog.level.lastGood = some d →
      let t := levelReading s
      t.brine.levelMass = some (min s.settings.depth (s.settings.depth - d) * s.settings.crossSection *
        s.settings.bulkDensity / 10000) ∧
        t.brine.comparison = t.brine.levelMass ∧ t.brine.stage = stageFound t ∧
        { t with brine := s.brine, link.events := s.link.events } = s))

/-- R59, R60: the stage that is found, and what its change does to the timers: a worsening loads the reminder, ends the
snooze and raises SALT_REMINDER, a return to OK ends both, anything else changes nothing. A reminder timer at 0 is
loaded again, and SALT_REMINDER is raised unless a snooze runs; a snooze timer at 0 becomes absent; elsewhere the two
timer commands change nothing (log 1). R50, R60: at each second the brine age counts up to 43,200, and both timers count
down, the reminder first (log 20). -/
def Obligations.SaltStageAndItsTimers : Prop :=
  (∀ s : State,
     let t := evalStage s
     (t.brine.stage = .out ↔ saltEstimate s ≤ emptyMass s.settings ∨
       (s.brine.levelMass ≠ none ∧ s.brine.height ≤ s.settings.emptyHeight)) ∧
     (t.brine.stage = .low ↔ t.brine.stage ≠ .out ∧
       ((∃ d, daysRemaining s = some d ∧ d ≤ s.settings.lowDays) ∨ saltEstimate s ≤ s.settings.lowMass)) ∧
     (stageRank s.brine.stage < stageRank t.brine.stage →
       t.brine.reminder = some (s.settings.reminderInterval * 3600) ∧ t.brine.snooze = none ∧
         t.link.events = insertEvent s.time.counter
           (.saltReminder t.brine.stage (saltEstimate s) (daysRemaining s)) s.link.events) ∧
     (t.brine.stage = .ok → s.brine.stage ≠ .ok → t.brine.reminder = none ∧ t.brine.snooze = none ∧ t.link = s.link) ∧
     (stageRank t.brine.stage ≤ stageRank s.brine.stage → (t.brine.stage = .ok → s.brine.stage = .ok) →
       t.brine.reminder = s.brine.reminder ∧ t.brine.snooze = s.brine.snooze ∧ t.link = s.link) ∧
     { t with
       brine.stage := s.brine.stage, brine.reminder := s.brine.reminder, brine.snooze := s.brine.snooze
       link.events := s.link.events } = s) ∧
  (∀ s : State, AtRest s →
     (s.brine.reminder = some 0 →
       exec .reminderTimerExpiry s = .next (refreshLines { s with
         brine.reminder := some (s.settings.reminderInterval * 3600)
         link.events := if s.brine.snooze = none then insertEvent s.time.counter
             (.saltReminder s.brine.stage (saltEstimate s) (daysRemaining s)) s.link.events
           else s.link.events })) ∧
     (s.brine.snooze = some 0 → exec .snoozeTimerExpiry s = .next { s with brine.snooze := none }) ∧
     (s.brine.reminder ≠ some 0 → exec .reminderTimerExpiry s = .next s) ∧
     (s.brine.snooze ≠ some 0 → exec .snoozeTimerExpiry s = .next s)) ∧
  (∀ s : State,
     let t := brineSecond s
     let left := s.brine.reminder.map (· - 1)
     t.brine.age = min 43200 (s.brine.age + 1) ∧
     t.brine.reminder = (if left = some 0 then some (s.settings.reminderInterval * 3600) else left) ∧
     t.brine.snooze = (s.brine.snooze.bind fun n => if n ≤ 1 then none else some (n - 1)) ∧
     t.link.events = (if left = some 0 ∧ s.brine.snooze = none then insertEvent s.time.counter
         (.saltReminder s.brine.stage (saltEstimate s) (daysRemaining s)) s.link.events
       else s.link.events) ∧
     { t with
       brine.age := s.brine.age, brine.reminder := s.brine.reminder, brine.snooze := s.brine.snooze
       link.events := s.link.events } = s)

/-- R56, R57, R61: SALT_ADDED pours a mass clamped to 1 to 150,000 g into the model, CLEAR_BRIDGE starts the observation
afresh, ACK_SALT snoozes the reminder where there is one to snooze. The bytes of the replies are those of R196 as log 11
reads it; the mass taken is an optional field behind the model mass, present under CLAMPED alone (log 44). -/
def Obligations.SaltMessages : Prop :=
  ∀ (tag : Byte) (s : State), Listens s →
    (∀ mass : BitVec 32,
      let m := max 1 (min 150000 mass.toNat)
      ∃ t, exec (.saltAdded tag mass) s = .next t ∧
        t.brine.model = min (massCapacity s.settings) (s.brine.model + m) ∧
        t.brine.regens = 0 ∧ t.brine.modelDrop = 0 ∧ t.brine.levelDrop = 0 ∧ t.brine.anchor = s.brine.levelMass ∧
        t.brine.bridge = s.brine.bridge ∧ t.brine.stage = stageFound t ∧
        { t with brine := s.brine, link := s.link, store := s.store } = s ∧ Written s t ∧
        (if m = mass.toNat then Sends 0xB0 tag .ok (u32 t.brine.model ++ [0, 0, 0, 0, 0]) t
         else Sends 0xB0 tag .clamped (u32 t.brine.model ++ 1 :: u32 m) t)) ∧
    (∃ t, exec (.clearBridge tag) s = .next t ∧ t.brine.bridge = false ∧ t.brine.model = s.brine.model ∧
      t.brine.regens = 0 ∧ t.brine.modelDrop = 0 ∧ t.brine.levelDrop = 0 ∧ t.brine.anchor = s.brine.levelMass ∧
      t.brine.stage = stageFound t ∧ { t with brine := s.brine, link := s.link, store := s.store } = s ∧
      Written s t ∧ Sends 0xB2 tag .ok [0, 0, 0, 0, 0, 0, 0, 0, 0, 0] t) ∧
    (s.brine.stage ≠ .ok →
      exec (.ackSalt tag) s = .next (withReply 0xB1 tag .ok (u8 (stageCode s.brine.stage) ++ u32 259200)
        { s with brine.snooze := some 259200 })) ∧
    (s.brine.stage = .ok → exec (.ackSalt tag) s = .next (withReply 0xB1 tag .state [] s))

/-! ## Chapter 4 -/

/-- R70, R71, R76: a step that its unit may use is entered with fresh counts; the salt and the credit are asked for once
in a run; the copy takes the context and the entry is a write trigger. An empty slot, or a phase that F may not run,
aborts the run under way with PROGRAMME_ERROR, the slot and the cause for its detail, with no report to the Brine
Monitor (R82, R83, R85). -/
def Obligations.StepIsEnteredWithFreshCounts : Prop :=
  (∀ (c : RunCtx) (s : State), s.run.ctx = some c → c.state ≠ .finishing →
    let slot := c.slot.getD 0
    let aborted := fun (cause : ProgrammeCause) => (enterStep s).brine = s.brine ∧
      ProgrammeAborted c.unit (c.unit ≠ .f ∧ c.brineDone = true) slot (.programme cause slot) s (enterStep s)
    (currentStep c s = none → aborted .emptySlot) ∧
    (∀ st, currentStep c s = some st → c.unit = .f → st.phase = .brine ∨ st.phase = .refill → aborted .phase)) ∧
  ∀ (c : RunCtx) (st : Step) (s : State), s.run.ctx = some c → currentStep c s = some st →
    (c.unit = .f → st.phase ≠ .brine ∧ st.phase ≠ .refill) →
    let valve := c.unit.valve
    let place := stepPosition c.unit st.phase
    let u := enterStep s
    ∃ c', u.run.ctx = some c' ∧ u.run.copy = some c' ∧ u.writeDue = true ∧
      c'.unit = c.unit ∧ c'.slot = c.slot ∧ c'.steps = c.steps ∧ c'.budget = c.budget ∧
      c'.elapsed = 0 ∧ c'.stepVolume = 0 ∧ c'.refilled = 0 ∧ c'.holdCount = 0 ∧ c'.releaseCount = 0 ∧
      (st.phase = .refill → 0 < s.settings.refillRate →
        st.amount * 100 ≤ c'.refillTarget * s.settings.refillRate ∧
          c'.refillTarget * s.settings.refillRate < st.amount * 100 + s.settings.refillRate) ∧
      (if st.phase = .brine ∧ c.saltComputed = false then
        c'.saltComputed = true ∧ c'.dissolved = some (saltDissolved s) ∧
          c'.pendingCredit = min s.settings.nominalCapacity (saltDissolved s * s.settings.efficiency / 10)
      else c'.saltComputed = c.saltComputed ∧ c'.dissolved = c.dissolved ∧ c'.pendingCredit = c.pendingCredit) ∧
      (if isAt valve place s = true then
        c'.posReached = true ∧ u.valves = s.valves ∧ (c.suspendedBy = false → c'.state = .running)
      else
        c'.posReached = false ∧ c'.awaited = some ⟨valve, place, .step⟩ ∧
          (c.suspendedBy = false → c'.state = .positioning) ∧
          u.valves = (postRequest valve place .run .runController s).valves) ∧
      u.brine = s.brine ∧ u.bed = s.bed ∧ u.link = s.link ∧ u.queue = s.queue

/-- R73, R74, R75: a sample taken in RUNNING with V_SHUT AT(OPEN) adds its second, and its drain or refill figure, to
the step; a step that it brings to its end ends by what STEP_END does; with V_SHUT elsewhere, and in POSITIONING and
FINISHING, it advances nothing. R76: the end of a step tells the Brine Monitor, clears the restarts without progress and
follows the link; a link that would make a seventeenth step is not followed, and aborts the run with PROGRAMME_ERROR, as
a link to an empty slot or to a phase that F may not run does (R70, R82); with no run the command finds nothing to do
(log 1). -/
def Obligations.StepEndFollowsTheLink : Prop :=
  ∀ s : State, AtRest s →
    (∀ c st, s.run.ctx = some c → c.state = .running → currentStep c s = some st → stepReached c st = true →
      ∃ u, exec .stepEnd s = .next (finish u) ∧ u.writeDue = true ∧
        u.meter = s.meter ∧ u.leak = s.leak ∧ u.settings = s.settings ∧ u.loop = s.loop ∧ u.supply = s.supply ∧
        (st.phase = .brine → u.brine = (brineCompletion (if c.brineDone then 0 else c.dissolved.getD 0) s).brine) ∧
        (st.phase = .refill → u.brine.volume = min 1000000 c.refilled ∧ u.brine.age = 0) ∧
        (st.phase ≠ .brine → st.phase ≠ .refill → u.brine = s.brine) ∧
        (stepCapped c st = true → ∃ p ∈ u.link.events, eventCode p.event = 0x0E) ∧
        (∀ n st', st.next = some n → c.steps < 16 → slotOf s.run.table n = some st' →
          (c.unit = .f → st'.phase ≠ .brine ∧ st'.phase ≠ .refill) →
          ∃ c', u.run.ctx = some c' ∧ c'.unit = c.unit ∧ c'.slot = some n ∧ c'.steps = c.steps + 1 ∧
            c'.restarts = 0 ∧ c'.elapsed = 0 ∧ c'.brineDone = (c.brineDone || decide (st.phase = .brine))) ∧
        (∀ n, st.next = some n →
          let stays := c.unit ≠ .f ∧ (c.brineDone = true ∨ st.phase = .brine)
          (16 ≤ c.steps → ProgrammeAborted c.unit stays (c.slot.getD 0) (.programme .loopLimit n) s u) ∧
          (c.steps < 16 → slotOf s.run.table n = none →
            ProgrammeAborted c.unit stays n (.programme .emptySlot n) s u) ∧
          (∀ st', c.steps < 16 → slotOf s.run.table n = some st' → c.unit = .f →
            st'.phase = .brine ∨ st'.phase = .refill →
            ProgrammeAborted c.unit stays n (.programme .phase n) s u)) ∧
        (st.next = none → isAt c.unit.valve (restPosition c.unit) s = false →
          ∃ c', u.run.ctx = some c' ∧ c'.state = .finishing ∧ c'.outcome = some .done ∧ c'.slot = none ∧
            c'.awaited = some ⟨c.unit.valve, restPosition c.unit, .finish⟩) ∧
        (st.next = none → isAt c.unit.valve (restPosition c.unit) s = true →
          u.run.ctx = none ∧ u.queue.grant = none ∧ ∃ p ∈ u.link.events, eventCode p.event = 0x0C)) ∧
    (s.run.ctx = none → exec .stepEnd s = .next s) ∧
    (∀ (c : RunCtx) (st : Step) (x : Sample),
      (stepReached c st = true ↔
        (st.phase = .refill ∧ c.refillTarget ≤ c.elapsed) ∨
        (st.phase ≠ .refill ∧ st.measure = .time ∧ st.amount ≤ c.elapsed) ∨
        (st.phase ≠ .refill ∧ st.measure = .volume ∧
          (st.amount * 100 ≤ c.stepVolume ∨ ∃ cap, st.cap = some cap ∧ cap ≤ c.elapsed))) ∧
      countStep c st x = { c with
        elapsed := min 50000 (c.elapsed + 1)
        stepVolume := if st.phase ≠ .refill ∧ st.measure = .volume then c.stepVolume + x.drain else c.stepVolume
        refilled := if st.phase = .refill then c.refilled + x.refill else c.refilled } ∧
      (s.run.ctx = some c → c.state = .running → currentStep c s = some st → isAt .shut 0 s = true →
        stepReached (countStep c st x) st = true →
        exec .stepEnd { s with run.ctx := some (countStep c st x) } = .next (finish (runSample x s))) ∧
      (s.run.ctx = some c → c.state = .positioning ∨ c.state = .finishing → runSample x s = s))

/-- R77, R78: at a hold count of 10 the run is held at its hold position; at a release count of 60 or a spent budget it
is taken back to its step's position, its counts as they stood (log 19); both moves are asked for with class RUN, and
elsewhere the two commands change nothing (log 1). A sample of a RUNNING step that goes on, counted before where V_SHUT
is AT(OPEN), raises the hold count or sets it to 0; a sample in HOLDING spends the budget and raises the release count
or sets it to 0; the sample that brings a count to its end does what the command does. -/
def Obligations.HoldsBeginAndEnd : Prop :=
  (∀ s : State, AtRest s → s.run.ctx = none → exec .holdEntry s = .next s ∧ exec .holdRelease s = .next s) ∧
  ∀ (c : RunCtx) (s : State), AtRest s → s.run.ctx = some c →
    (c.state = .running → 10 ≤ c.holdCount →
      exec .holdEntry s = .next (finish (postRequest c.unit.valve (restPosition c.unit) .run .runController
        { s with run.ctx := some { c with
          state := .holding, holdCount := 0, releaseCount := 0, posReached := false
          awaited := some ⟨c.unit.valve, restPosition c.unit, .hold⟩ } }))) ∧
    (c.state = .holding → 60 ≤ c.releaseCount ∨ c.budget = 0 →
      exec .holdRelease s = .next (finish (postRequest c.unit.valve (currentPosition c s) .run .runController
        { s with
          run.ctx := some { c with
            state := .positioning, awaited := some ⟨c.unit.valve, currentPosition c s, .step⟩ }
          link.events := if c.budget = 0 then
            insertEvent s.time.counter (.holdBudgetSpent c.unit (c.slot.getD 0)) s.link.events else s.link.events }))) ∧
    (c.state ≠ .running ∨ c.holdCount < 10 → exec .holdEntry s = .next s) ∧
    (c.state ≠ .holding ∨ (c.releaseCount < 60 ∧ 0 < c.budget) → exec .holdRelease s = .next s) ∧
    (∀ (st : Step) (x : Sample), c.state = .running → currentStep c s = some st →
      let advances := isAt .shut 0 s = true
      let counted := if advances then countStep c st x else c
      let counting := st.holdAllowed = true ∧ 0 < c.budget ∧ stepPosition c.unit st.phase ≠ restPosition c.unit ∧
        s.settings.holdThreshold ≤ x.rate
      let tested : State :=
        { s with run.ctx := some { counted with holdCount := if counting then min 10 (c.holdCount + 1) else 0 } }
      ¬(advances ∧ stepReached counted st = true) →
      exec .holdEntry tested = .next (finish (runSample x s)) ∧
        (¬counting ∨ c.holdCount < 9 → runSample x s = tested)) ∧
    (∀ x : Sample, c.state = .holding →
      let released := if x.rate < s.settings.holdThreshold then min 60 (c.releaseCount + 1) else 0
      let spent : State := { s with run.ctx := some { c with budget := c.budget - 1, releaseCount := released } }
      exec .holdRelease spent = .next (finish (runSample x s)) ∧
        (released < 60 → 1 < c.budget → runSample x s = spent))

/-- R80, R81, R82, R83, R179: a run suspended with no cause left runs on where its position stands, asks for its step's
position where it does not, and a parked one goes by its phase: REFILL goes on, a BRINE step past half its amount is
complete, unless a restart has restored the run and it has not resumed since (R179, log 51), any other step starts
afresh. At the power suspension limit the run is aborted with reason POWER: it takes the outcome, empties its suspension
causes and, where its valve is away from service, asks for the finishing move; short of the limit the command changes
nothing (log 1). R79, R80: a sample in SUSPENDED counts in the suspended total, and under POWER in the power suspended
count, which at its limit does what the command does. -/
def Obligations.SuspendedRunResumesOrIsAborted : Prop :=
  (∀ (c : RunCtx) (s : State), AtRest s → s.run.ctx = some c → c.state = .suspended →
     c.susShutoff = false → c.susPower = false →
     (c.parked = false → c.posReached = true →
       exec .runResume s = .next { s with run.ctx := some { c with state := .running } }) ∧
     (c.parked = false → c.posReached = false →
       exec .runResume s = .next (finish (postRequest c.unit.valve (currentPosition c s) .run .runController
         { s with run.ctx := some { c with
           state := .positioning, awaited := some ⟨c.unit.valve, currentPosition c s, .step⟩ } }))) ∧
     (∀ st, c.parked = true → currentStep c s = some st → st.phase = .refill →
       exec .runResume s = .next (finish (postRequest c.unit.valve (currentPosition c s) .run .runController
         { s with run.ctx := some { c with
           state := .positioning, parked := false, restored := false, posReached := false
           awaited := some ⟨c.unit.valve, currentPosition c s, .step⟩ } }))) ∧
     (∀ st, c.parked = true → currentStep c s = some st →
       (st.phase ≠ .refill ∧ st.phase ≠ .brine) ∨
         (st.phase = .brine ∧ (c.restored = true ∨ c.elapsed < st.amount / 2)) →
       exec .runResume s = .next (finish (postRequest c.unit.valve (currentPosition c s) .run .runController
         { s with run.ctx := some { c with
           state := .positioning, parked := false, restored := false, posReached := false
           elapsed := 0, stepVolume := 0, refilled := 0
           awaited := some ⟨c.unit.valve, currentPosition c s, .step⟩ } }))) ∧
     (∀ st, c.parked = true → currentStep c s = some st → st.phase = .brine → c.restored = false →
       st.amount / 2 ≤ c.elapsed →
       ∃ u, exec .runResume s = .next (finish u) ∧
         u.brine = (brineCompletion (if c.brineDone then 0 else c.dissolved.getD 0) s).brine ∧
         (∀ n st', st.next = some n → c.steps < 16 → slotOf s.run.table n = some st' →
           (c.unit = .f → st'.phase ≠ .brine ∧ st'.phase ≠ .refill) →
           ∃ c', u.run.ctx = some c' ∧ c'.slot = some n ∧ c'.parked = false ∧ c'.restored = false ∧
             c'.brineDone = true ∧ c'.elapsed = 0))) ∧
  (∀ (c : RunCtx) (s : State), AtRest s → s.run.ctx = some c →
     (c.state ≠ .finishing → c.susPower = true → s.settings.powerLimit * 3600 ≤ c.powerSuspended →
       ∃ u, exec .powerSuspensionLimit s = .next (finish u) ∧ u.writeDue = true ∧
         (isAt c.unit.valve (restPosition c.unit) s = false →
           ∃ c' a, u.run.ctx = some c' ∧ u.run.copy ≠ none ∧ c'.state = .finishing ∧ c'.unit = c.unit ∧
             c'.slot = none ∧ c'.susPower = false ∧ c'.susShutoff = false ∧
             c'.outcome = some (.aborted a) ∧ a.reason = .power ∧ a.detail = .none ∧ a.slot = c.slot.getD 0 ∧
             c'.awaited = some ⟨c.unit.valve, restPosition c.unit, .finish⟩) ∧
         (isAt c.unit.valve (restPosition c.unit) s = true →
           u.run.ctx = none ∧ u.queue.grant = none ∧ ∃ p ∈ u.link.events, eventCode p.event = 0x0D)) ∧
     (c.susPower = false ∨ c.powerSuspended < s.settings.powerLimit * 3600 →
       exec .powerSuspensionLimit s = .next s) ∧
     (∀ x : Sample, c.state = .suspended →
       let counted : State := { s with run.ctx := some { c with
         suspendedTotal := min 4294967295 (c.suspendedTotal + 1)
         powerSuspended := if c.susPower then min 259200 (c.powerSuspended + 1) else c.powerSuspended } }
       exec .powerSuspensionLimit counted = .next (finish (runSample x s)) ∧
         (c.susPower = false ∨ c.powerSuspended + 1 < s.settings.powerLimit * 3600 → runSample x s = counted)))

/-- R43, R44, R55, R83, R84, R85, R96, R110, R111: the end of a run empties context, copy and grant, reports to the bed
or the filter, raises RUN_DONE or RUN_ABORTED, and defers a unit whose run was cancelled, by the cancel deferral as the
end of the run finds it (log 40). An aborted unit is queued again with its class and reason RESUMED: at once, behind the
cancel deferral where it was cancelled; under a VALVE_CLEAR hold where its valve is in FAULT; under a PROGRAMME_EDIT
hold, with class REQUIRED, after PROGRAMME_ERROR; a tank whose BRINE was done is not queued. The salt reported of an
aborted run is the part that an abort during a BRINE step, a second one too, took back. RUN_END ends a run in FINISHING
whose valve stands at its service position, or which a fault of its valve aborted, and else changes nothing (log 1); the
end that a fault answer of the finishing move brings (R83), stated in DriveExtendAndHoldEnd, is this same end, with the
valve away from service. -/
def Obligations.RunEndReportsAndReleases : Prop :=
  ∀ (c : RunCtx) (s : State), s.run.ctx = some c →
    let u := runEnd s
    let ends := isAt c.unit.valve (restPosition c.unit) s = true ∨
      ∃ a, c.outcome = some (.aborted a) ∧ a.reason = .valveFault
    (AtRest s →
      (c.state = .finishing → ends → exec .runEnd s = .next (finish u)) ∧
      (c.state ≠ .finishing ∨ ¬ends → exec .runEnd s = .next s)) ∧
    u.run.ctx = none ∧ u.run.copy = none ∧ u.queue.grant = none ∧ u.writeDue = true ∧ .regrant ∈ u.signals ∧
    u.brine = s.brine ∧ u.leak = s.leak ∧ u.meter = s.meter ∧ u.settings = s.settings ∧
    (c.unit = .f → u.filter.state = if isAt .flt 0 s then .inService else .bypassHeld) ∧
    (c.outcome = some .done →
      (∃ p ∈ u.link.events, eventCode p.event = 0x0C) ∧ u.queue.entries = s.queue.entries ∧
      u.run.holds = s.run.holds ∧
      (∀ t, c.unit.tank = some t → (tankRec t s).role = .regenerating →
        tankRec t u = { tankRec t s with
          role := .standby
          credit := min c.pendingCredit s.settings.nominalCapacity
          remaining := min c.pendingCredit s.settings.nominalCapacity
          residue := 0, rinseIncomplete := false
          regenCount := if 0 < c.pendingCredit then min 65535 ((tankRec t s).regenCount + 1)
            else (tankRec t s).regenCount
          lastRegen := some ⟨min c.pendingCredit s.settings.nominalCapacity,
            if c.brineDone then c.dissolved.getD 0 else 0, s.time.clock, none⟩ }) ∧
      (c.unit = .f → u.filter = { state := u.filter.state })) ∧
    (∀ a, c.outcome = some (.aborted a) →
      let queued := c.unit = .f ∨ c.brineDone = false
      let faulty := (valveRec c.unit.valve s).status = .fault
      let joins := fun (deferral : Nat) => u.run.holds = s.run.holds ∧
        u.queue.entries = dispatchOrder (s.queue.entries ++
          [⟨c.unit, c.cls, .resumed, 0, s.time.clock, deferral, s.queue.joins⟩])
      let waits := fun (cls : Cls) (condition : HoldCondition) => u.queue.entries = s.queue.entries ∧
        u.run.holds = s.run.holds.filter (fun h => decide (h.unit ≠ c.unit)) ++ [⟨c.unit, cls, condition⟩]
      (∃ p ∈ u.link.events, eventCode p.event = 0x0D) ∧
      (a.reason = .commanded → unitDeferral c.unit u =
        if s.settings.cancelDeferral = 0 then none else some (s.settings.cancelDeferral * 60)) ∧
      (¬queued → u.queue.entries = s.queue.entries ∧ u.run.holds = s.run.holds) ∧
      (queued → (∀ e ∈ s.queue.entries, e.unit ≠ c.unit) →
        (∀ t, c.unit.tank = some t → (tankRec t s).role = .regenerating) →
        (match a.reason with
          | .commanded => joins (s.settings.cancelDeferral * 60)
          | .programmeError => waits .required .programmeEdit
          | .valveFault | .power | .restartLimit =>
            (faulty → waits c.cls .valveClear) ∧ (¬faulty → joins ((unitDeferral c.unit s).getD 0)))) ∧
      (∀ t, c.unit.tank = some t → (tankRec t s).role = .regenerating →
        let salt := match c.abortedSalt with
          | some part => part
          | none => if c.brineDone then c.dissolved.getD 0 else 0
        let credit := if c.brineDone then min c.pendingCredit s.settings.nominalCapacity else 0
        (if c.brineDone then (tankRec t u).role = .standby ∧ (tankRec t u).rinseIncomplete = true ∧
            (tankRec t u).credit = credit ∧ (tankRec t u).remaining = credit
          else (tankRec t u).role = .waiting ∧ (tankRec t u).credit = (tankRec t s).credit ∧
            (tankRec t u).remaining = (tankRec t s).remaining) ∧
        (tankRec t u).lastRegen = some ⟨credit, salt, s.time.clock, some a.reason⟩) ∧
      (c.unit = .f → u.filter = { s.filter with state := u.filter.state }))

/-- R65, R66: PUT_STEP is checked in the order of its table, a record with an amount or cap out of range is stored
clamped, a stored edit releases the holds that wait for one, and the slot of a run under way is BUSY. A byte of the
record that names no value is refused after BUSY, and not read under the mark empty (log 26); an emptied slot answers
with zeros behind its mark (log 49). SET_ENTRY stores the slot in the pointer it names and answers with both
pointers. -/
def Obligations.StepTableMessages : Prop :=
  (∀ (tag slot emptyMark phase measure : Byte) (amount : BitVec 16) (capPresent : Byte) (cap : BitVec 16)
     (holdAllowed next : Byte) (s : State), Listens s →
     let command := Instr.putStep tag slot emptyMark phase measure amount capPresent cap holdAllowed next
     let record := readStep phase measure amount capPresent cap holdAllowed next
     (slot.toNat < 1 ∨ 16 < slot.toNat → exec command s = .next (withReply 0xA0 tag .badValue [] s)) ∧
     (1 ≤ slot.toNat → slot.toNat ≤ 16 →
       (∀ c, s.run.ctx = some c → c.state ≠ .finishing → c.slot = some slot.toNat →
         exec command s = .next (withReply 0xA0 tag .busy [] s)) ∧
       ((∀ c, s.run.ctx = some c → c.state ≠ .finishing → c.slot ≠ some slot.toNat) →
         (emptyMark = 1 → ∃ u, Answers command s 0xA0 tag .ok (fun _ => [1, 0, 0, 0, 0, 0, 0, 0, 0, 0]) u ∧
           slotOf u.run.table slot.toNat = none ∧
           u.writeDue = true ∧ u.run.holds = s.run.holds.filter (fun h => !(h.condition == .programmeEdit))) ∧
         (1 < emptyMark.toNat ∨ (emptyMark = 0 ∧ record = none) →
           exec command s = .next (withReply 0xA0 tag .badValue [] s)) ∧
         (∀ st, emptyMark = 0 → record = some st →
           (st.phase = .brine ∧ st.measure = .volume) ∨ (st.phase = .refill ∧ st.measure = .time) ∨
             (st.measure = .volume ∧ st.phase ≠ .refill ∧ st.cap = none) ∨
             (st.cap ≠ none ∧ (st.measure = .time ∨ st.phase = .refill)) ∨ (∃ n, st.next = some n ∧ 16 < n) →
           exec command s = .next (withReply 0xA0 tag .badValue [] s)) ∧
         (∀ st, emptyMark = 0 → record = some st → stepSound st = true → s.run.table.length = 16 →
           let top := if st.measure = .time then 7200 else 5000
           let stored := { st with
             amount := max 1 (min top st.amount), cap := st.cap.map (fun n => max 1 (min 7200 n)) }
           ∃ u, Answers command s 0xA0 tag (if stored = st then .ok else .clamped) (fun _ => encSlot (some stored)) u ∧
             slotOf u.run.table slot.toNat = some stored ∧
             (∀ n, n ≠ slot.toNat → slotOf u.run.table n = slotOf s.run.table n) ∧
             u.writeDue = true ∧ u.run.holds = s.run.holds.filter (fun h => !(h.condition == .programmeEdit)))))) ∧
  (∀ (tag pointer slot : Byte) (s : State), Listens s →
     (pointer.toNat ≤ 1 → 1 ≤ slot.toNat → slot.toNat ≤ 16 →
       ∃ u, Answers (.setEntry tag pointer slot) s 0xA2 tag .ok
           (fun t => u8 t.run.softEntry ++ u8 t.run.filterEntry) u ∧
         u.run.softEntry = (if pointer = 0 then slot.toNat else s.run.softEntry) ∧
         u.run.filterEntry = (if pointer = 0 then s.run.filterEntry else slot.toNat) ∧
         u.run.table = s.run.table ∧ u.writeDue = true ∧
         u.run.holds = s.run.holds.filter (fun h => !(h.condition == .programmeEdit))) ∧
     (1 < pointer.toNat ∨ slot.toNat < 1 ∨ 16 < slot.toNat →
       exec (.setEntry tag pointer slot) s = .next (withReply 0xA2 tag .badValue [] s)))

/-! ## Chapter 5 -/

/-- R94: an entry is eligible just where every condition of the table holds, and otherwise its blocker names the first
that fails, which GET_QUEUE reports behind the entry. -/
def Obligations.EligibilityByTheFirstFailingCondition : Prop :=
  (∀ (e : Entry) (s : State),
    let conditions : List (Prop × Blocker) :=
      [(s.queue.grant = none, .runActive), (s.supply.regime = .mains, .power),
       ((s.leak.closeSet.leak = false ∧ s.leak.closeSet.commanded = false ∧ s.leak.closeSet.dormant = false) ∧
          (valveRec .shut s).status = .atPos 0, .shutoff),
       (s.leak.state = .watch, .leak), ((valveRec e.unit.valve s).status ≠ .fault, .valveFault),
       (e.deferral = 0, .deferred), (s.queue.keptRate ≠ none, .noSample),
       (e.cls = .optional → quietNow s = true, .notQuiet),
       (e.cls = .optional → 300 ≤ s.queue.still, .flow),
       (e.cls = .wanted → s.queue.keptRate.getD 0 < s.settings.holdThreshold, .demand)]
    (blockerOf e s = none ↔ ∀ p ∈ conditions, p.1) ∧
    (∀ b, blockerOf e s = some b ↔
      ∃ front back cond, conditions = front ++ (cond, b) :: back ∧ (∀ p ∈ front, p.1) ∧ ¬cond)) ∧
  (∀ (tag : Byte) (s : State), Listens s →
    ∃ record, exec (.getQueue tag) s = .next (withReply 0x87 tag .ok record s) ∧
      ∀ k e, k < 3 → s.queue.entries[k]? = some e → ∃ front back, record = front ++ encEntry e ++
        (match blockerOf e s with
          | none => [0, 0]
          | some b => [1, BitVec.ofNat 8 (blockerCode b)]) ++ back)

/-- R69, R95: the first eligible entry in the order is dispatched: it leaves the list, the grant and the context name
its unit, RUN_STARTED is raised, and its programme's first step is entered, or the run aborted with PROGRAMME_ERROR
where that step is an empty slot or a phase that F may not run (R70); a re-evaluation with the grant present or with no
eligible entry changes nothing. DISPATCH does this, and a re-evaluation that another command sets out does it within the
same action: where all that follows ends within the bound of log 28, the action ends as DISPATCH would end it. -/
def Obligations.DispatchOfTheFirstEligibleEntry : Prop :=
  ∀ s : State,
    (∀ front e back, s.queue.grant = none → s.run.ctx = none → s.queue.entries = front ++ e :: back →
      (∀ x ∈ front, blockerOf x s ≠ none) → blockerOf e s = none →
      let entry := if e.unit = .f then s.run.filterEntry else s.run.softEntry
      let u := reevaluateGrant s
      (∀ x ∈ u.queue.entries, x.unit = e.unit → u.run.ctx = none) ∧
      (∃ p ∈ u.link.events, eventCode p.event = 0x0B) ∧ u.writeDue = true ∧ u.brine = s.brine ∧
      (∀ st, slotOf s.run.table entry = some st → (e.unit = .f → st.phase ≠ .brine ∧ st.phase ≠ .refill) →
        u.queue.grant = some e.unit ∧ (∀ x ∈ u.queue.entries, x.unit ≠ e.unit) ∧
        (∀ h ∈ u.run.holds, h.unit ≠ e.unit) ∧
        (∃ c, u.run.ctx = some c ∧ c.unit = e.unit ∧ c.cls = e.cls ∧ c.reason = e.reason ∧
          c.slot = some entry ∧ c.steps = 1 ∧ c.budget = s.settings.holdBudget ∧ c.elapsed = 0 ∧
          c.brineDone = false ∧ c.outcome = none ∧ c.restarts = 0 ∧ c.startCounter = s.time.counter ∧
          c.startTime = s.time.clock) ∧
        (e.unit = .f → u.filter.state = .backwashing) ∧
        (∀ t, e.unit.tank = some t → (tankRec t s).role = .waiting → (tankRec t u).role = .regenerating)) ∧
      (slotOf s.run.table entry = none →
        ProgrammeAborted e.unit False entry (.programme .emptySlot entry) s u) ∧
      (∀ st, slotOf s.run.table entry = some st → e.unit = .f → st.phase = .brine ∨ st.phase = .refill →
        ProgrammeAborted e.unit False entry (.programme .phase entry) s u)) ∧
    (s.queue.grant ≠ none ∨ s.run.ctx ≠ none ∨ (∀ x ∈ s.queue.entries, blockerOf x s ≠ none) →
      reevaluateGrant s = s) ∧
    (AtRest s →
      exec .dispatch s = .next (finish (reevaluateGrant s)) ∧
      (s.queue.grant ≠ none ∨ (∀ x ∈ s.queue.entries, blockerOf x s ≠ none) → exec .dispatch s = .next s) ∧
      (settles 255 (reevaluateGrant s) = true →
        exec .dispatch s = .next (finish { s with signals := [.regrant] })))

/-- R85, R91, R92: the dispatch order keeps the same entries, higher class first, then greater age, then earlier join;
aging raises OPTIONAL entries of 48 hours to WANTED and fixes the order afresh; a unit deferral at 0 becomes absent;
every VALVE_CLEAR hold whose valve is not in FAULT is released (log 33) and hands its unit back to the queue, the other
holds standing; where no entry has reached 48 hours, QUEUE_AGING changes nothing (log 1). R92, R93: at a second ages
count up, deferrals down, and the entries are aged as QUEUE_AGING ages them; a flow sample leaves its rate, counts or
ends the still time, and has the grant re-evaluated. -/
def Obligations.QueueOrderAgingAndHeldUnits : Prop :=
  (∀ l : List Entry, (dispatchOrder l).Perm l ∧
     (dispatchOrder l).Pairwise (fun x y => clsRank y.cls < clsRank x.cls ∨
       (clsRank x.cls = clsRank y.cls ∧ (y.age < x.age ∨ (x.age = y.age ∧ x.joined ≤ y.joined))))) ∧
  (∀ s : State, AtRest s →
     ((∃ e ∈ s.queue.entries, e.cls = .optional ∧ 172800 ≤ e.age) →
       exec .queueAging s = .next (finish { s with
         queue.entries := dispatchOrder (s.queue.entries.map (fun e =>
           if e.cls = .optional ∧ 172800 ≤ e.age then { e with cls := .wanted } else e))
         writeDue := true, signals := [.regrant] })) ∧
     ((∀ e ∈ s.queue.entries, e.cls = .optional → e.age < 172800) → exec .queueAging s = .next s) ∧
     (∃ t, exec .unitDeferralExpiry s = .next t ∧
       (∀ u : HeadUnit, unitDeferral u t = if unitDeferral u s = some 0 then none else unitDeferral u s) ∧
       { t with queue.deferA := s.queue.deferA, queue.deferB := s.queue.deferB, queue.deferF := s.queue.deferF } = s)) ∧
  (∀ s : State, AtRest s →
     ∃ u, exec .requeueHoldRelease s = .next (finish u) ∧
       u.run.holds = s.run.holds.filter (fun h => !(h.condition == .valveClear && !isFault h.unit.valve s)) ∧
       u.run.table = s.run.table ∧ u.run.ctx = s.run.ctx ∧ u.bed = s.bed ∧ u.brine = s.brine ∧ u.valves = s.valves ∧
       (∀ h ∈ s.run.holds, h.condition = .valveClear → isFault h.unit.valve s = false →
         s.run.ctx.map (·.unit) ≠ some h.unit → (∀ t, h.unit.tank = some t → (tankRec t s).role = .waiting) →
         (∀ e ∈ s.queue.entries, e.unit ≠ h.unit) → (∀ h' ∈ s.run.holds, h'.unit = h.unit → h' = h) →
         ∃ e ∈ u.queue.entries, e.unit = h.unit ∧ e.cls = h.cls ∧ e.reason = .resumed)) ∧
  (∀ s : State, held s = false →
     let down := fun (d : Option Nat) => d.bind fun n => if n ≤ 1 then none else some (n - 1)
     let counted : State := { s with
       queue.entries := s.queue.entries.map fun e =>
         { e with age := min 4294967295 (e.age + 1), deferral := e.deferral - 1 }
       queue.deferA := down s.queue.deferA, queue.deferB := down s.queue.deferB, queue.deferF := down s.queue.deferF }
     exec .queueAging counted = .next (finish (queueSecond s)) ∧
       ((∀ e ∈ s.queue.entries, e.cls = .optional → e.age + 1 < 172800) → queueSecond s = counted)) ∧
  (∀ (x : Sample) (s : State), queueSample x s = { s with
     queue.keptRate := some x.rate
     queue.still := if x.household = 0 then min 300 (s.queue.still + 1) else 0
     signals := s.signals ++ [.regrant] })

/-- R33, R97: REQUEST_REGEN is refused where a byte names no tank or no mode, and where the tank cannot be asked for;
otherwise it makes or raises the entry of a
WAITING tank, makes a STANDBY tank WAITING with an entry, or asks for the changeover of the serving one, whose unit
deferral then counts on (log 45). R185: the reply is read from the state that the action leaves, after its follow-ups
(log 9). -/
def Obligations.RequestRegenByTheTanksRole : Prop :=
  (∀ (tag tank mode : Byte) (s : State), Listens s → readTank tank = none ∨ readMode mode = none →
    exec (.requestRegen tag tank mode) s = .next (withReply 0xA8 tag .badValue [] s)) ∧
  ∀ (tag tank mode : Byte) (t : Tank) (cls : Cls) (s : State), Listens s →
    readTank tank = some t → readMode mode = some cls →
    let command := Instr.requestRegen tag tank mode
    let role := (tankRec t s).role
    let refused := exec command s = .next (withReply 0xA8 tag .state [] s)
    (role = .regenerating → refused) ∧
    (role = .waiting → (∃ h ∈ s.run.holds, h.unit = t.unit) → refused) ∧
    (role = .standby → s.bed.changePending = true → refused) ∧
    (role = .inService → (tankRec t.other s).role ≠ .standby → refused) ∧
    (role = .waiting ∨ (role = .standby ∧ s.bed.changePending = false) →
      (∀ h ∈ s.run.holds, h.unit ≠ t.unit) → s.run.ctx.map (·.unit) ≠ some t.unit →
      ∃ u, Answers command s 0xA8 tag .ok (fun v => regenRecord t v) u ∧ (tankRec t u).role = .waiting ∧
        unitDeferral t.unit u = none ∧ u.bed.changePending = s.bed.changePending ∧ u.run = s.run ∧
        u.valves = s.valves ∧ u.leak = s.leak ∧ u.brine = s.brine ∧
        ∃ e ∈ u.queue.entries, e.unit = t.unit ∧ e.deferral = 0 ∧
          (match entryOf t.unit s with
            | none => e.cls = cls ∧ e.reason = .commanded ∧ e.age = 0 ∧ e.entered = s.time.clock
            | some old => e.cls = higherCls old.cls cls ∧ e.reason = old.reason ∧ e.age = old.age)) ∧
    (role = .inService → (tankRec t.other s).role = .standby → servingTank s = t →
      ∃ u, Answers command s 0xA8 tag .ok (fun v => regenRecord t v) u ∧ u.bed.changePending = true ∧
        u.queue = s.queue ∧ u.run = s.run ∧ u.leak = s.leak ∧ u.brine = s.brine ∧
        (if s.bed.changePending = true then
          u.bed.changeClass = some (match s.bed.changeClass with
            | none => cls
            | some held => higherCls held cls) ∧ u.valves = s.valves
        else u.bed.changeClass = some cls ∧
          u.valves = (postRequest .soft (servicePos t.other) .changeover .bedAccounting s).valves))

/-- R51, R55, R82, R98, R99: REQUEST_BACKWASH makes or raises the entry of F; CANCEL_RUN aborts the run that names the
unit, with the part drawn in a BRINE step taken back and kept for the report, or takes its entry from the queue, where a
tank's comes back deferred; each is refused where its table says so. The reply of REQUEST_BACKWASH is read from the
state that the action leaves (R185, log 9), F's entry as an optional field (log 55). -/
def Obligations.BackwashAndCancelMessages : Prop :=
  ∀ (tag : Byte) (s : State), Listens s →
    (∀ mode, readMode mode = none →
      exec (.requestBackwash tag mode) s = .next (withReply 0xA9 tag .badValue [] s)) ∧
    (∀ unit, readUnit unit = none → exec (.cancelRun tag unit) s = .next (withReply 0xAA tag .badValue [] s)) ∧
    (∀ mode cls, readMode mode = some cls →
      (s.run.ctx.map (·.unit) = some .f ∨ (∃ h ∈ s.run.holds, h.unit = .f) →
        exec (.requestBackwash tag mode) s = .next (withReply 0xA9 tag .state [] s)) ∧
      (s.run.ctx.map (·.unit) ≠ some .f → (∀ h ∈ s.run.holds, h.unit ≠ .f) →
        ∃ u, Answers (.requestBackwash tag mode) s 0xA9 tag .ok (fun v => opt 16 encEntry (entryOf .f v)) u ∧
          unitDeferral .f u = none ∧ u.run = s.run ∧ u.valves = s.valves ∧ u.filter = s.filter ∧ u.bed = s.bed ∧
          ∃ e ∈ u.queue.entries, e.unit = .f ∧ e.deferral = 0 ∧
            (match entryOf .f s with
              | none => e.cls = cls ∧ e.reason = .commanded ∧ e.age = 0
              | some old => e.cls = higherCls old.cls cls ∧ e.reason = old.reason ∧ e.age = old.age))) ∧
    (∀ unit u0, readUnit unit = some u0 →
      (∀ c, s.run.ctx = some c → c.unit = u0 → c.state = .finishing →
        exec (.cancelRun tag unit) s = .next (withReply 0xAA tag .state [] s)) ∧
      (∀ c, s.run.ctx = some c → c.unit = u0 → c.state ≠ .finishing →
        ∃ u, Answers (.cancelRun tag unit) s 0xAA tag .ok (fun _ => []) u ∧ u.writeDue = true ∧
          (∀ st, currentStep c s = some st → u.brine = match st.phase with
            | .brine => (brineAbort (c.dissolved.getD 0) c.elapsed st.amount s).brine
            | .refill => (refillEnd c.refilled s).brine
            | _ => s.brine) ∧
          (isAt u0.valve (restPosition u0) s = false →
            ∃ c' a, u.run.ctx = some c' ∧ c'.state = .finishing ∧ c'.unit = u0 ∧ c'.susPower = false ∧
              c'.susShutoff = false ∧ c'.outcome = some (.aborted a) ∧ a.reason = .commanded ∧
              c'.brineDone = c.brineDone ∧ (∀ st, currentStep c s = some st → c'.abortedSalt =
                if st.phase = .brine then some (c.dissolved.getD 0 * c.elapsed / st.amount) else c.abortedSalt)) ∧
          (isAt u0.valve (restPosition u0) s = true → u.run.ctx = none ∧ u.queue.grant = none)) ∧
      (s.run.ctx.map (·.unit) ≠ some u0 → entryOf u0 s = none →
        exec (.cancelRun tag unit) s = .next (withReply 0xAA tag .notFound [] s)) ∧
      (∀ e, s.run.ctx.map (·.unit) ≠ some u0 → entryOf u0 s = some e →
        (∀ t, u0.tank = some t → (tankRec t s).role = .waiting) →
        ∃ u, Answers (.cancelRun tag unit) s 0xAA tag .ok (fun _ => []) u ∧
          unitDeferral u0 u =
            (if s.settings.cancelDeferral = 0 then none else some (s.settings.cancelDeferral * 60)) ∧
          (u0 = .f → ∀ x ∈ u.queue.entries, x.unit ≠ .f) ∧
          (u0 ≠ .f → ∃ x ∈ u.queue.entries, x.unit = u0 ∧ x.cls = e.cls ∧ x.reason = .resumed ∧ x.age = 0 ∧
            x.deferral = s.settings.cancelDeferral * 60)))

/-! ## Chapter 6 -/

/-- R105, R107, R108, R109: the supply of a sample joins the one volume count that V_FLT's status at the sample's expiry
picks, whatever an earlier turn of the sample has done to V_FLT; what a
qualified sample does to the high count and the trigger; PRESSURE_TRIGGER, which latches WANTED where the count stands
at 3 with no trigger (elsewhere the command changes nothing, log 1); which samples qualify for the measure; and the
request that the highest standing trigger makes: discarded while F runs, it raises the class of a hold, raises the class
of an entry, or joins with the unit deferral. -/
def Obligations.FilterCountsAndTriggers : Prop :=
  ((∀ (served : Bool) (supply : Nat) (s : State), countFiltered served supply s =
     if served = true then { s with filter.volume := min 4294967295 (s.filter.volume + supply) }
     else { s with filter.unfiltered := min 4294967295 (s.filter.unfiltered + supply) }) ∧
   (∀ s : State, standingTrigger s =
     match s.filter.trigger with
     | some .required => some (.required, .filterDp)
     | some .wanted => some (.wanted, .filterDp)
     | none =>
       if s.settings.filterVolumeLimit * 1000000 ≤ s.filter.volume then some (.optional, .filterVolume)
       else if s.settings.filterDayLimit ≤ s.filter.days then some (.optional, .filterDays)
       else none)) ∧
  ((∀ (x : Sample) (s : State),
     let dp := s.analog.pIn.lastGood.getD 0 - s.analog.pOut.lastGood.getD 0
     let norm := dp * 200 / x.rate
     let t := measurePressure x s
     t.filter.lastDp = some norm ∧
       t.filter.highCount = (if norm < s.settings.dpLimit then 0 else min 3 (s.filter.highCount + 1)) ∧
       t.filter.trigger =
         (if s.settings.dpLimit ≤ norm ∧ 2 * s.settings.dpLimit ≤ norm then some .required
         else if s.settings.dpLimit ≤ norm ∧ 3 ≤ s.filter.highCount + 1 ∧ s.filter.trigger = none then some .wanted
         else s.filter.trigger) ∧
       t.filter.volume = s.filter.volume ∧ t.filter.days = s.filter.days ∧ t.filter.state = s.filter.state ∧
       { t with filter := s.filter, link.events := s.link.events, writeDue := s.writeDue } = s) ∧
   (∀ s : State, AtRest s →
     (3 ≤ s.filter.highCount → s.filter.trigger = none →
       exec .pressureTrigger s = .next (beginWrite { s with filter.trigger := some .wanted })) ∧
     (s.filter.highCount < 3 ∨ s.filter.trigger ≠ none → exec .pressureTrigger s = .next s))) ∧
  (∀ (order : List SampleReader) (s : State), held s = false →
     exec (.meteringIntervalExpiry order) s = .next (finish ((sampleOrder order).foldl
       (fun u r => deliver (match r with
         | .filter => filterSample (isAt .flt 0 s) (closeInterval s).1 u
         | .filterRequest => filterRequest u
         | .bed => bedSample (closeInterval s).1 u
         | .run => runSample (closeInterval s).1 u
         | .leak => leakSample (closeInterval s).1 u
         | .queue => queueSample (closeInterval s).1 u)) (closeInterval s).2))) ∧
  (∀ (served : Bool) (x : Sample) (s : State),
     let counted := countFiltered served x.supply s
     let qualified := s.filter.state = .inService ∧ isAt .flt 0 s = true ∧ 50 ≤ x.rate ∧ x.rate ≤ 400 ∧ x.drain = 0 ∧
       x.refill = 0 ∧ s.analog.pIn.valid = true ∧ s.analog.pOut.valid = true
     (qualified → filterSample served x s = measurePressure x counted) ∧
       (¬qualified → filterSample served x s = counted)) ∧
  (∀ s : State,
     (standingTrigger s = none → filterRequest s = s) ∧
     (∀ cls reason, standingTrigger s = some (cls, reason) →
       (s.run.ctx.map (·.unit) = some .f → filterRequest s = s) ∧
       (s.run.ctx.map (·.unit) ≠ some .f → (∃ h ∈ s.run.holds, h.unit = .f) →
         filterRequest s = { s with run.holds := s.run.holds.map fun h =>
           if h.unit = .f then { h with cls := higherCls h.cls cls } else h }) ∧
       (s.run.ctx.map (·.unit) ≠ some .f → (∀ h ∈ s.run.holds, h.unit ≠ .f) →
         let t := filterRequest s
         (∃ e ∈ t.queue.entries, e.unit = .f ∧ match entryOf .f s with
           | none => e.cls = cls ∧ e.reason = reason ∧ e.age = 0 ∧ e.deferral = s.queue.deferF.getD 0
           | some old => e = { old with cls := higherCls old.cls cls }) ∧
         (∀ e ∈ s.queue.entries, e.unit ≠ .f → e ∈ t.queue.entries) ∧
         { t with queue := s.queue, writeDue := s.writeDue, signals := s.signals } = s)))

/-! ## Chapter 7 -/

/-- R116, R117: how a move request is met: by a fault, by a move that already goes to its target, by a move that goes
elsewhere, by a valve AT its target, or by joining as the valve's pending request (log 15). -/
def Obligations.MoveRequestArrives : Prop :=
  ∀ (v : Valve) (target : Nat) (cls : MoveClass) (who : Requester) (s : State), s.signals = [] →
    let r : MoveReq := ⟨target, cls, who, s.valves.stamps⟩
    let t := postRequest v target cls who s
    let put := fun (old : Option MoveReq) => match old with
      | some w => [Signal.answer v w .setAside]
      | none => []
    t.valves.stamps = s.valves.stamps + 1 ∧ { t with valves := s.valves, signals := [] } = s ∧
    (∀ w, w ≠ v → valveRec w t = valveRec w s) ∧
    (valveRec v t).status = (valveRec v s).status ∧ (valveRec v t).lastDir = (valveRec v s).lastDir ∧
    (isFault v s = true →
      t.signals = [.answer v r .fault] ∧ valveRec v t = valveRec v s ∧ t.valves.grant = s.valves.grant) ∧
    (∀ g, isFault v s = false → s.valves.grant = some g → g.valve = v →
      t.signals = put g.req ++ put (valveRec v s).waiting ++ [.arbitrate] ∧
      (if g.target = target then t.valves.grant = some { g with req := some r } ∧ (valveRec v t).waiting = none
       else t.valves.grant = some { g with req := none } ∧ (valveRec v t).waiting = some r)) ∧
    ((∀ g, s.valves.grant = some g → g.valve ≠ v) → t.valves.grant = s.valves.grant) ∧
    ((∀ g, s.valves.grant = some g → g.valve ≠ v) → isAt v target s = true →
      t.signals = .answer v r .completion :: put (valveRec v s).waiting ∧ (valveRec v t).waiting = none) ∧
    ((∀ g, s.valves.grant = some g → g.valve ≠ v) → isFault v s = false → isAt v target s = false →
      t.signals = put (valveRec v s).waiting ++ [.arbitrate] ∧ (valveRec v t).waiting = some r)

/-- R115, R118, R119, R121: with the driver free the arbiter takes the request of the highest granted class, the
earliest within it; a reversal enters SETTLE with the valve's status unchanged, any other move drives at once, and a
reading that already confirms the target goes to HOLD; a request whose valve is AT its target is answered with
completion; with the driver taken, or nothing to grant, nothing changes. MOVE_GRANT does this after reading the senses,
and an arbiter's re-evaluation that another command sets out does it within the same action, with the senses as last
read: where all that follows ends within the bound of log 28, the action ends as MOVE_GRANT would end it. A move of
V_SHUT that so leaves AT(OPEN) suspends the run under way (R79). V_SOFT is turned the shorter way round its ten detents,
FORWARD where both ways are equal; V_FLT and V_SHUT go the way of their targets; an invalid reading gives FORWARD. -/
def Obligations.ArbiterGrantsTheDriver : Prop :=
  (∀ s : State,
     (∀ v r, s.valves.grant = none → (valveRec v s).waiting = some r → regimeGrants s.supply.regime r.cls = true →
       (∀ w q, w ≠ v → (valveRec w s).waiting = some q → regimeGrants s.supply.regime q.cls = true →
         moveRank q.cls < moveRank r.cls ∨ (q.cls = r.cls ∧ r.stamp < q.stamp)) →
       let reading := (valveRec v s).sense
       let way := moveDirection v reading r.target
       let reversal := reading ≠ .pos r.target ∧ (valveRec v s).lastDir.any (· ≠ way.1) = true
       let u := arbitrate s
       let moved := if (valveRec v s).status = .moving then [] else [Signal.status v (valveRec v s).status .moving]
       (isAt v r.target s = true →
         (valveRec v u).waiting = none ∧ ∃ more, u.signals = s.signals ++ .answer v r .completion :: more) ∧
       (isAt v r.target s = false →
         (∃ g, u.valves.grant = some g ∧ g.valve = v ∧
           g.target = r.target ∧ g.cls = r.cls ∧ g.req = some r ∧ g.retry = false ∧ (valveRec v u).waiting = none ∧
           (∀ w, w ≠ v → valveRec w u = valveRec w s) ∧ { u with valves := s.valves, signals := s.signals } = s ∧
           (reversal → g.phase = .settle ∧ (valveRec v u).status = (valveRec v s).status ∧
             (valveRec v u).lastDir = (valveRec v s).lastDir ∧ u.signals = s.signals) ∧
           (reading = .pos r.target → g.phase = .hold ∧ (valveRec v u).status = .moving ∧
             (valveRec v u).lastDir = (valveRec v s).lastDir ∧ u.signals = s.signals ++ moved) ∧
           (reading ≠ .pos r.target → ¬reversal → g.phase = .drive ∧ g.dir = some way.1 ∧
             g.nominal = nominalDrive v way.2 ∧ (valveRec v u).status = .moving ∧
             (valveRec v u).lastDir = some way.1 ∧ u.signals = s.signals ++ moved)) ∧
         (∀ c, AtRest s → v = .shut → (valveRec .shut s).status = .atPos 0 → ¬reversal → s.run.ctx = some c →
           c.state ≠ .finishing →
           (finish u).run.ctx = some { c with
             susShutoff := true, state := .suspended, holdCount := 0, releaseCount := 0 }))) ∧
     (s.valves.grant ≠ none ∨
       (∀ v r, (valveRec v s).waiting = some r → regimeGrants s.supply.regime r.cls = false) → arbitrate s = s) ∧
     (AtRest s →
       (∀ a b c, exec (.moveGrant a b c) s = .next (finish (arbitrate (readSenses a b c s)))) ∧
       (settles 255 (arbitrate s) = true →
         exec (.moveGrant (valveRec .shut s).sense (valveRec .flt s).sense (valveRec .soft s).sense) s =
           .next (finish { s with signals := [.arbitrate] })))) ∧
  (∀ d target : Nat, d < 10 → target < 10 →
     (d ≠ target → ∃ forward reverse, discCounts (.pos d) target = some (forward, reverse) ∧
       (d + forward) % 10 = target ∧ (target + reverse) % 10 = d ∧ forward < 10 ∧ reverse < 10 ∧
       moveDirection .soft (.pos d) target =
         (if forward ≤ reverse then (.forward, forward) else (.reverse, reverse)) ∧
       (moveDirection .soft (.pos d) target).2 ≤ 5) ∧
     (∃ forward reverse, discCounts (.span d) target = some (forward, reverse) ∧
       (d + forward) % 10 = target ∧ (target + reverse) % 10 = (d + 1) % 10 ∧
       1 ≤ forward ∧ forward ≤ 10 ∧ 1 ≤ reverse ∧ reverse ≤ 10 ∧
       moveDirection .soft (.span d) target =
         (if forward ≤ reverse then (.forward, forward) else (.reverse, reverse)))) ∧
  (∀ d target : Nat,
     moveDirection .soft .invalid target = (.forward, 5) ∧
     (moveDirection .flt .invalid target).1 = .forward ∧
     (d ≠ target → (moveDirection .flt (.pos d) target).1 = if d < target then .forward else .reverse) ∧
     ((moveDirection .flt (.span d) target).1 = if d + 1 ≤ target then .forward else .reverse) ∧
     (∀ r, (moveDirection .shut r 1).1 = .forward ∧ (moveDirection .shut r 0).1 = .reverse))

/-- R115, R119, R120, R121, R123: at the end of SETTLE a move without a requester is removed, an outranked or no longer
granted one returns to pending with its own stamp, and any other drives, as a retry does whatever waits; a DRIVE takes
the direction and the count of detents that the reading at its start gives, whatever the direction decided at the grant
(log 24). A move of V_SHUT that so leaves AT(OPEN) suspends the run under way within the same action (R79). In every
other phase the command changes nothing (log 1). -/
def Obligations.SettleEndsInRecheck : Prop :=
  ∀ (reading : Reading) (g : Grant) (s : State), AtRest s → s.valves.grant = some g →
    let s1 := setValve g.valve { valveRec g.valve s with sense := reading } s
    let outranking := ∃ w q, w ≠ g.valve ∧ (valveRec w s).waiting = some q ∧ moveRank g.cls < moveRank q.cls
    let way := moveDirection g.valve reading g.target
    let driven := { g with phase := .drive, dir := some way.1, nominal := nominalDrive g.valve way.2 }
    (g.phase = .settle → g.retry = false →
      (g.req = none →
        exec (.settleEnd reading) s = .next (finish { s1 with valves.grant := none, signals := [.arbitrate] })) ∧
      (∀ r, g.req = some r → outranking ∨ regimeGrants s.supply.regime g.cls = false →
        exec (.settleEnd reading) s = .next (finish { setValve g.valve
          { valveRec g.valve s with sense := reading, waiting := some r } s with
          valves.grant := none, signals := [.arbitrate] })) ∧
      (∀ r, g.req = some r → ¬outranking → regimeGrants s.supply.regime g.cls = true → reading ≠ .pos g.target →
        (∃ u, exec (.settleEnd reading) s = .next (finish u) ∧ u.valves.grant = some driven ∧
          valveRec g.valve u = { valveRec g.valve s1 with status := .moving, lastDir := some way.1 } ∧
          u.signals = (if (valveRec g.valve s).status = .moving then []
            else [.status g.valve (valveRec g.valve s).status .moving]) ∧
          { u with valves := s.valves, signals := [] } = s) ∧
        (∀ c, g.valve = .shut → (valveRec .shut s).status = .atPos 0 → s.run.ctx = some c → c.state ≠ .finishing →
          ∃ t, exec (.settleEnd reading) s = .next t ∧ t.valves.grant = some driven ∧ t.run.ctx = some { c with
            susShutoff := true, state := .suspended, holdCount := 0, releaseCount := 0 }))) ∧
    (g.phase = .settle → g.retry = true → reading ≠ .pos g.target →
      ∃ u, exec (.settleEnd reading) s = .next (finish u) ∧ u.valves.grant = some driven ∧
        valveRec g.valve u = { valveRec g.valve s1 with status := .moving, lastDir := some way.1 } ∧
        { u with valves := s.valves, signals := [] } = s) ∧
    (g.phase = .settle → reading = .pos g.target → g.req ≠ none ∨ g.retry = true → ¬outranking ∨ g.retry = true →
      regimeGrants s.supply.regime g.cls = true ∨ g.retry = true →
      ∃ u, exec (.settleEnd reading) s = .next (finish u) ∧ u.valves.grant = some { g with phase := .hold } ∧
        valveRec g.valve u = { valveRec g.valve s1 with status := .moving }) ∧
    (g.phase ≠ .settle → exec (.settleEnd reading) s = .next s)

/-- R121, R122, R123: a confirmed position passes a driving move to HOLD; DRIVE that runs out passes to EXTEND, or to
HOLD where the reading confirms; the first stall makes the retry's SETTLE, the second makes the valve FAULT, frees the
driver, answers the move and the pending request with fault and raises VALVE_FAULT; at the end of HOLD the valve is AT
its target, the change is reported, the request of the move is answered with completion, and the driver is free (the
order of what sets out is log 25). In other phases the four commands change nothing (log 1). The reports and answers are
handled within the action, one after another (log 28). The run in progress takes an answer to its awaited move alone
(R72): completion makes a POSITIONING run RUNNING and ends one in FINISHING, and in RUNNING clears the awaited move only
(log 22); a fault aborts a run under way with VALVE_FAULT (R82) and ends one in FINISHING (R83). V_SHUT leaving AT(OPEN)
suspends a run under way, and reaching it removes that cause (R79) and, with the last cause, resumes the run as
RUN_RESUME does (R81). The run's own valve moving off the step's position takes position reached away (log 14), and its
fault aborts the run. V_FLT's status sets the Filter Monitor's state outside a run of F (R104); a valve leaving FAULT
releases the holds of its units and has the grant re-evaluated (R85, R95). Three actions are followed to their end. -/
def Obligations.DriveExtendAndHoldEnd : Prop :=
  (∀ (reading : Reading) (g : Grant) (s : State), AtRest s → s.valves.grant = some g →
     (g.phase = .drive ∨ g.phase = .extend →
       exec .positionConfirmed s = .next { setValve g.valve
         { valveRec g.valve s with sense := .pos g.target } s with valves.grant := some { g with phase := .hold } }) ∧
     (g.phase = .drive →
       exec (.driveTimeout reading) s = .next { setValve g.valve { valveRec g.valve s with sense := reading } s with
         valves.grant := some { g with phase := if reading = .pos g.target then .hold else .extend } }) ∧
     (g.phase ≠ .drive → exec (.driveTimeout reading) s = .next s) ∧
     (g.phase ≠ .drive → g.phase ≠ .extend → exec .positionConfirmed s = .next s)) ∧
  (∀ (reading : Reading) (g : Grant) (s : State), AtRest s → s.valves.grant = some g →
     let s1 := setValve g.valve { valveRec g.valve s with sense := reading } s
     (g.phase = .extend → reading ≠ .pos g.target → g.retry = false →
       exec (.extendStall reading) s =
         .next { s1 with valves.grant := some { g with phase := .settle, retry := true } }) ∧
     (g.phase = .extend → reading = .pos g.target →
       exec (.extendStall reading) s = .next { s1 with valves.grant := some { g with phase := .hold } }) ∧
     (g.phase = .extend → reading ≠ .pos g.target → g.retry = true → (valveRec g.valve s).status = .moving →
       exec (.extendStall reading) s = .next (finish { setValve g.valve
         { valveRec g.valve s with sense := reading, status := .fault, waiting := none } s with
         valves.grant := none
         link.events := insertEvent s.time.counter (.valveFault g.valve g.target g.cls reading) s.link.events
         signals := .status g.valve .moving .fault ::
           ((g.req.toList ++ (valveRec g.valve s).waiting.toList).map (fun r => .answer g.valve r .fault)) ++
             [.arbitrate] })) ∧
     (g.phase ≠ .extend → exec (.extendStall reading) s = .next s)) ∧
  (∀ (g : Grant) (s : State), AtRest s → s.valves.grant = some g →
     (g.phase = .hold → (valveRec g.valve s).status = .moving →
       exec .holdEnd s = .next (finish { setValve g.valve
         { valveRec g.valve s with status := .atPos g.target } s with
         valves.grant := none
         signals := .status g.valve .moving (.atPos g.target) ::
           (g.req.toList.map (fun r => .answer g.valve r .completion)) ++ [.arbitrate] })) ∧
     (g.phase ≠ .hold → exec .holdEnd s = .next s)) ∧
  (∀ s : State,
     (s.signals = [] → deliver s = s) ∧
     (∀ sig rest, s.signals = sig :: rest →
       let u := handle sig { s with signals := rest }
       settles 255 u = true → deliver s = deliver u)) ∧
  (∀ (c : RunCtx) (w : Awaited) (v : Valve) (r : MoveReq) (s : State), s.run.ctx = some c → c.awaited = some w →
     r.requester = .runController →
     let answered := fun (res : Answer) => handle (.answer v r res) s
     let left := { c with awaited := none }
     (w.valve ≠ v ∨ w.target ≠ r.target → ∀ res, answered res = s) ∧
     (w.valve = v → w.target = r.target →
       answered .setAside = s ∧
       (c.state = .positioning →
         answered .completion = { s with run.ctx := some { left with posReached := true, state := .running } }) ∧
       (c.state = .suspended → answered .completion = { s with run.ctx := some { left with
         posReached := c.posReached || decide (w.target = currentPosition c s)
         parked := c.parked || decide (w.kind = .park) } }) ∧
       (c.state = .holding ∨ c.state = .running → answered .completion = { s with run.ctx := some left }) ∧
       (c.state = .finishing →
         answered .completion = runEnd { s with run.ctx := some left } ∧ answered .fault = runEnd s) ∧
       (c.state ≠ .finishing → ∃ s' c' a, answered .fault = runEnd s' ∧ s'.run.ctx = some c' ∧
         c'.unit = c.unit ∧ c'.cls = c.cls ∧ c'.brineDone = c.brineDone ∧ c'.outcome = some (.aborted a) ∧
         a.reason = .valveFault ∧ a.detail = .valve v ∧ a.slot = c.slot.getD 0 ∧ s'.bed = s.bed ∧
         s'.valves = s.valves ∧ s'.queue = s.queue ∧ s'.run.holds = s.run.holds))) ∧
  (∀ (c : RunCtx) (v : Valve) (before after : ValveStatus) (s : State), s.run.ctx = some c →
     let t := handle (.status v before after) s
     let cleared := { c with susShutoff := false }
     let s1 : State := { s with run.ctx := some cleared }
     (v = .shut →
       (before = .atPos 0 → after ≠ .atPos 0 → c.state ≠ .finishing → t.run.ctx = some { c with
         susShutoff := true, state := .suspended, holdCount := 0, releaseCount := 0 }) ∧
       (after = .atPos 0 → c.state ≠ .finishing → c.susShutoff = true →
         (c.susPower = true ∨ c.state ≠ .suspended → t.run.ctx = some cleared) ∧
         (c.susPower = false → c.state = .suspended → t.run = (resumeRun cleared s1).run ∧
           (AtRest s1 → exec .runResume s1 = .next (finish (resumeRun cleared s1))) ∧
           (c.parked = false → c.posReached = true → t.run.ctx = some { cleared with state := .running }))) ∧
       (c.state = .finishing ∨ (after = .atPos 0 ∧ c.susShutoff = false) ∨
         (after ≠ .atPos 0 ∧ before ≠ .atPos 0) → t.run = s.run)) ∧
     (v = c.unit.valve →
       (after = .fault → c.state ≠ .finishing → t.run.ctx = none ∧ t.run.copy = none ∧ t.queue.grant = none ∧
         ∃ p ∈ t.link.events, eventCode p.event = 0x0D) ∧
       (after ≠ .fault → t.run.ctx = some (if c.posReached = true ∧ after ≠ ValveStatus.atPos (currentPosition c s)
         then { c with posReached := false } else c))) ∧
     (v ≠ .shut → v ≠ c.unit.valve → t.run.ctx = some c)) ∧
  (∀ (before after : ValveStatus) (s : State), s.run.ctx = none →
     (before ≠ .fault → handle (.status .flt before after) s = { s with
       filter.state := if s.filter.state = .backwashing then .backwashing
         else if isAt .flt 0 s then .inService else .bypassHeld }) ∧
     (∀ v, let t := handle (.status v .fault after) s
       t.run.holds = s.run.holds.filter (fun h => !(h.condition == .valveClear && h.unit.valve == v)) ∧
         .regrant ∈ t.signals)) ∧
  (∀ (c : RunCtx) (g : Grant) (s : State), AtRest s → s.valves.grant = some g → s.run.ctx = some c →
     (valveRec g.valve s).status = .moving → (∀ w, w ≠ g.valve → (valveRec w s).waiting = none) →
     (∀ r w, g.phase = .hold → g.valve = .soft → s.valves.soft.waiting = none → g.req = some r →
       r.requester = .runController → c.state = .positioning → c.awaited = some w → w.valve = .soft →
       w.target = r.target →
       exec .holdEnd s = .next { setValve .soft { s.valves.soft with status := .atPos g.target } s with
         valves.grant := none
         run.ctx := some { c with awaited := none, posReached := true, state := .running } }) ∧
     (g.phase = .hold → g.valve = .shut → g.target = 0 → s.valves.shut.waiting = none →
       (∀ r, g.req = some r → r.requester = .shutoffControl) → c.state = .suspended → c.susShutoff = true →
       c.susPower = false → c.parked = false → c.posReached = true →
       ∃ t, exec .holdEnd s = .next t ∧ (valveRec .shut t).status = .atPos 0 ∧
         t.run.ctx = some { c with susShutoff := false, state := .running }) ∧
     (∀ reading, g.phase = .extend → reading ≠ .pos g.target → g.retry = true → g.valve = c.unit.valve →
       c.state ≠ .finishing → c.brineDone = false → s.queue.entries = [] →
       ∃ t, exec (.extendStall reading) s = .next t ∧ (valveRec g.valve t).status = .fault ∧ t.run.ctx = none ∧
         t.queue.grant = none ∧ t.run.holds = s.run.holds.filter (fun h => decide (h.unit ≠ c.unit)) ++
           [⟨c.unit, c.cls, .valveClear⟩] ∧
         (∃ p ∈ t.link.events, eventCode p.event = 0x0D) ∧ ∃ p ∈ t.link.events, eventCode p.event = 0x15))

/-- R124, R125: CLEAR_FAULT makes a valve in FAULT UNKNOWN with no last direction, reports the change, and re-issues its
standing target with class PARK in its owner's name; a valve that is not in FAULT is refused. The reply carries
UNKNOWN, the status with which the re-issue leaves the valve, also where the move is granted at once (log 23). -/
def Obligations.ClearFaultReissuesTheStandingTarget : Prop :=
  ∀ (tag valve : Byte) (s : State), Listens s →
    (readValve valve = none → exec (.clearFault tag valve) s = .next (withReply 0xAB tag .badValue [] s)) ∧
    (∀ v, readValve valve = some v → (valveRec v s).status ≠ .fault →
      exec (.clearFault tag valve) s = .next (withReply 0xAB tag .state [] s)) ∧
    (∀ v, readValve valve = some v → (valveRec v s).status = .fault →
      (∀ g, s.valves.grant = some g → g.valve ≠ v) → (valveRec v s).waiting = none →
      ∃ u, Answers (.clearFault tag valve) s 0xAB tag .ok (fun _ => encStatus .unknown) u ∧
        (valveRec v u).status = .unknown ∧ (valveRec v u).lastDir = none ∧
        u.signals = [.status v .fault .unknown, .arbitrate] ∧
        (∃ r, (valveRec v u).waiting = some r ∧ r.cls = .park ∧
          (match v with
            | .shut => r.requester = .shutoffControl ∧
                r.target = (if s.leak.closeSet.leak = false ∧ s.leak.closeSet.commanded = false ∧
                  s.leak.closeSet.dormant = false then 0 else 1)
            | .flt => s.run.ctx.map (·.unit) ≠ some .f → r.requester = .filterMonitor ∧ r.target = 0
            | .soft => s.run.ctx = none ∨ s.run.ctx.map (·.unit) = some .f →
                r.requester = .bedAccounting ∧ r.target = servicePos (servingTank s)) ∧
          (∀ c, s.run.ctx = some c → c.unit.valve = v → r.requester = .runController ∧
            ∃ c' w, u.run.ctx = some c' ∧ c'.awaited = some w ∧ w.valve = v ∧ w.target = r.target)) ∧
        (∀ w, w ≠ v → valveRec w u = valveRec w s) ∧ u.valves.grant = s.valves.grant ∧ u.bed = s.bed ∧
        u.leak = s.leak ∧ u.brine = s.brine ∧ u.queue = s.queue)

/-! ## Chapter 8 -/

/-- R131, R132, R133: a sample at or above the trickle begins an episode in WATCH, SUSPECT and PROBATION, with the
limits of its class; each later sample counts the still time, and then the age, the volume and the peak. R132, R137: an
episode of 30 still samples ends, and with it the burst confirmation and a state of SUSPECT; at age 30 the average rate
is taken and the lowest fixture that matches gives its limits: the rate lies within the fixture's, its hours hold the
current hour, or all 24 while the clock is not set, and away mode is off or allowed; elsewhere the two commands change
nothing (log 1). -/
def Obligations.EpisodeEndsAndIsMatched : Prop :=
  (∀ s : State, AtRest s → s.leak.episode = none →
    exec .episodeEnd s = .next s ∧ exec .fixtureMatch s = .next s) ∧
  (∀ (e : Episode) (s : State), AtRest s → s.leak.episode = some e →
    (30 ≤ e.still →
      exec .episodeEnd s = .next (finish { s with
        leak.episode := none, leak.burst := none
        leak.state := if s.leak.state = .suspect then .watch else s.leak.state
        signals := if s.leak.state = .suspect then [.regrant] else [] })) ∧
    (e.still < 30 → exec .episodeEnd s = .next s) ∧
    (e.age = 30 → e.average = none →
      let matching := fun (f : Fixture) => f.rateLow ≤ e.volume / 50 ∧ e.volume / 50 ≤ f.rateHigh ∧
        (s.time.clock.clockSet = true → f.hours.getLsbD s.time.clock.hour = true) ∧
        (s.time.clock.clockSet = false → ∀ h, h < 24 → f.hours.getLsbD h = true) ∧
        (s.leak.away = true → f.awayAllowed = true)
      ∃ e', exec .fixtureMatch s = .next { s with leak.episode := some e' } ∧ e'.average = some (e.volume / 50) ∧
        e'.age = e.age ∧ e'.volume = e.volume ∧ e'.prewarned = e.prewarned ∧ e'.extended = e.extended ∧
        (∀ n f, 1 ≤ n → n ≤ 16 → slotOf s.leak.fixtures n = some f → matching f →
          (∀ m f', 1 ≤ m → m < n → slotOf s.leak.fixtures m = some f' → ¬matching f') →
          e'.cls = .fixture ∧ e'.fixture = some n ∧
            e'.durationLimit = (if e.extended then 2 * f.maxMinutes else f.maxMinutes) ∧
            e'.volumeLimit = (if e.extended then 2 * f.maxLitres else f.maxLitres)) ∧
        ((∀ n f, 1 ≤ n → n ≤ 16 → slotOf s.leak.fixtures n = some f → ¬matching f) →
          e' = { e with average := some (e.volume / 50) })) ∧
    (e.age ≠ 30 ∨ e.average ≠ none → exec .fixtureMatch s = .next s)) ∧
  (∀ (x : Sample) (s : State), s.leak.episode = none →
    (x.household < s.settings.trickle ∨ s.leak.state = .isolating ∨ s.leak.state = .isolated →
      episodeSample x s = s) ∧
    (s.settings.trickle ≤ x.household → s.leak.state = .watch ∨ s.leak.state = .suspect ∨ s.leak.state = .probation →
      let cls : LimitClass := if s.leak.away then .away else if quietNow s then .quiet else .active
      let limits := match cls with
        | .away => (s.settings.awayDuration, s.settings.awayVolume)
        | .quiet => (s.settings.quietDuration, s.settings.quietVolume)
        | _ => (s.settings.activeDuration, s.settings.activeVolume)
      let begun : Episode :=
        { startCounter := s.time.counter, startTime := s.time.clock, age := 1, volume := x.household, peak := x.rate
          average := none, fixture := none, cls := cls, durationLimit := limits.1, volumeLimit := limits.2
          prewarned := false, extended := false, still := 0 }
      episodeSample x s = { s with leak.episode := some begun })) ∧
  (∀ (e : Episode) (x : Sample) (s : State), AtRest s → s.leak.episode = some e →
    let still := if x.household < s.settings.trickle then min 30 (e.still + 1) else 0
    let grown : State := { s with leak.episode := some { e with
      still := still, age := min 4294967295 (e.age + 1), volume := min 4294967295 (e.volume + x.household)
      peak := max e.peak x.rate } }
    (30 ≤ still → exec .episodeEnd { s with leak.episode := some { e with still := still } } =
      .next (finish (episodeSample x s))) ∧
    (still < 30 → exec .fixtureMatch grown = .next (finish (episodeSample x s))) ∧
    (still < 30 → e.age ≠ 29 → episodeSample x s = grown))

/-- R138, R143, R144, R146: a trip of any cause writes the record, ends episode, burst and probation, adds LEAK to the
close-reason set with a close requested where the set was empty, and leaves the state ISOLATING, or ISOLATED where
V_SHUT stands AT(CLOSED); each of the three trip commands does so just where its condition stands, and else changes
nothing (log 1). R140: a rate at or above the burst rate begins the confirmation in WATCH or SUSPECT and counts it down
to the trip, a lower one ends it. The parts of a sample follow one another as log 18 orders them. The limit tests of a
sample trip at a reached limit, VOLUME before DURATION; short of that they warn once, at 80 % of either limit, and make
a state of WATCH SUSPECT. -/
def Obligations.LimitsTripOrWarn : Prop :=
  (∀ s : State, AtRest s →
     let tripped := fun (command : Instr) (cause : LeakCause) => ∃ u, exec command s = .next (finish u) ∧
       u.leak.record = some ⟨cause, s.time.counter, s.time.clock, (s.leak.episode.map (·.volume)).getD 0, none⟩ ∧
       u.leak.acknowledged = false ∧ u.leak.episode = none ∧ u.leak.burst = none ∧ u.leak.probation = 0 ∧
       u.leak.high = 0 ∧ u.leak.closeSet = { s.leak.closeSet with leak := true } ∧
       u.leak.state = (if (valveRec .shut s).status = .atPos 1 then .isolated else .isolating) ∧
       ((valveRec .shut s).status = .atPos 1 → ∃ p ∈ u.link.events, eventCode p.event = 0x18) ∧
       (s.leak.closeSet = {} → u.valves = (postRequest .shut 1 .shutClose .shutoffControl s).valves) ∧
       (s.leak.closeSet ≠ {} → u.valves = s.valves) ∧
       (s.leak.closeSet.leak = false → u.writeDue = true) ∧
       u.bed = s.bed ∧ u.brine = s.brine ∧ u.meter = s.meter ∧ u.run = s.run ∧ u.queue = s.queue ∧
       u.leak.fixtures = s.leak.fixtures ∧ u.leak.away = s.leak.away
     (∀ e, s.leak.episode = some e → e.volumeLimit * 1000 ≤ e.volume → tripped .limitTrip .volume) ∧
     (∀ e, s.leak.episode = some e → e.volume < e.volumeLimit * 1000 → e.durationLimit * 60 ≤ e.age →
       tripped .limitTrip .duration) ∧
     (∀ e, s.leak.episode = some e → e.volume < e.volumeLimit * 1000 → e.age < e.durationLimit * 60 →
       exec .limitTrip s = .next s) ∧
     (s.leak.episode = none → exec .limitTrip s = .next s) ∧
     (s.leak.burst = some 0 → tripped .burstTrip .burst) ∧
     (s.leak.burst ≠ some 0 → exec .burstTrip s = .next s) ∧
     (s.leak.state = .probation → 5 ≤ s.leak.high → tripped .probationTrip .probation) ∧
     (s.leak.state ≠ .probation ∨ s.leak.high < 5 → exec .probationTrip s = .next s)) ∧
  (∀ (e : Episode) (s : State), s.leak.episode = some e →
     (e.volumeLimit * 1000 ≤ e.volume → limitTests s = trip .volume none s) ∧
     (e.volume < e.volumeLimit * 1000 → e.durationLimit * 60 ≤ e.age → limitTests s = trip .duration none s) ∧
     (e.volume < e.volumeLimit * 1000 → e.age < e.durationLimit * 60 →
       let reached := e.volumeLimit * 800 ≤ e.volume ∨ e.durationLimit * 48 ≤ e.age
       (e.prewarned = true ∨ ¬reached → limitTests s = s) ∧
       (e.prewarned = false → reached →
         let t := limitTests s
         t.leak.episode = some { e with prewarned := true } ∧
           t.link.events = insertEvent s.time.counter (.leakWarning
             (if e.volumeLimit * 800 ≤ e.volume then .volume else .duration) e.cls e.fixture e.age e.volume)
             s.link.events ∧
           t.leak.state = (if s.leak.state = .watch then .suspect else s.leak.state) ∧
           { t with leak := s.leak, link.events := s.link.events, signals := s.signals } = s))) ∧
  (∀ (x : Sample) (s : State), held s = false →
     let t := burstSample x s
     let watching := s.leak.state = .watch ∨ s.leak.state = .suspect
     (¬watching → t = s) ∧
     (watching → s.leak.burst = none → x.rate < s.settings.burstRate → t = s) ∧
     (watching → s.leak.burst = none → s.settings.burstRate ≤ x.rate →
       t.leak = { s.leak with burst := some 20, state := .suspect } ∧
         { t with leak := s.leak, signals := s.signals } = s) ∧
     (∀ n, watching → s.leak.burst = some n → s.settings.burstRate ≤ x.rate →
       exec .burstTrip { s with leak.burst := some (n - 1) } = .next (finish t) ∧
         (2 ≤ n → t = { s with leak.burst := some (n - 1) })) ∧
     (∀ n, watching → s.leak.burst = some n → x.rate < s.settings.burstRate →
       t.leak = { s.leak with
         burst := none
         state := if s.leak.episode.any (·.prewarned) then .suspect else .watch } ∧
         { t with leak := s.leak, signals := s.signals } = s) ∧
     (let judged := burstSample x (episodeSample x s)
      leakSample x s = dripSample x (passingSample x (probationSample x
        (if s.leak.episode = none then judged else limitTests judged)))))

/-- R144, R149, R150, R151: the isolation confirmed, the end of probation, the passing valve and the drip, each raised
or taken just where its condition stands (elsewhere the command changes nothing, log 1); and the samples that count
toward the last three: the probation and high counts with V_SHUT AT(OPEN), the passing count and volume with V_SHUT
AT(CLOSED), the quiet run, the drip timer and the longest run on every sample. -/
def Obligations.LeakMomentsAreTaken : Prop :=
  (∀ s : State, AtRest s →
    (∀ r, s.leak.state = .isolating → (valveRec .shut s).status = .atPos 1 → s.leak.record = some r →
      exec .leakIsolated s = .next (finish { s with
        leak.state := .isolated, signals := [.regrant]
        link.events := insertEvent s.time.counter
          (.leakIsolated r.cause r.volume r.pod (s.time.counter - r.counter)) s.link.events })) ∧
    (s.leak.state ≠ .isolating ∨ (valveRec .shut s).status ≠ .atPos 1 → exec .leakIsolated s = .next s) ∧
    (s.leak.state = .probation → s.leak.high < 5 → 60 ≤ s.leak.probation →
      exec .probationEnd s = .next (finish { s with
        leak.probation := 0, leak.high := 0, signals := [.regrant]
        leak.state := if s.leak.episode.any (·.prewarned) then .suspect else .watch })) ∧
    (s.leak.state ≠ .probation ∨ 5 ≤ s.leak.high ∨ s.leak.probation < 60 → exec .probationEnd s = .next s) ∧
    (30 ≤ s.leak.passing → s.leak.passingFlag = false → (valveRec .shut s).status = .atPos 1 →
      exec .shutoffPassing s = .next (refreshLines { s with
        leak.passingFlag := true
        link.events := insertEvent s.time.counter (.shutoffPassing s.leak.passingVolume s.leak.closeSet)
          s.link.events })) ∧
    (s.leak.passing < 30 ∨ s.leak.passingFlag = true ∨ (valveRec .shut s).status ≠ .atPos 1 →
      exec .shutoffPassing s = .next s) ∧
    (86400 ≤ s.leak.drip →
      exec .dripSuspect s = .next (refreshLines { s with
        leak.drip := 0, leak.longestRun := 0
        link.events := insertEvent s.time.counter (.dripSuspect s.leak.longestRun) s.link.events })) ∧
    (s.leak.drip < 86400 → exec .dripSuspect s = .next s)) ∧
  (∀ (x : Sample) (s : State), held s = false →
    (s.leak.state ≠ .probation → probationSample x s = s) ∧
    (s.leak.state = .probation → isAt .shut 0 s = false → probationSample x s = { s with leak.high := 0 }) ∧
    (s.leak.state = .probation → isAt .shut 0 s = true →
      let counted : State := { s with
        leak.probation := min 60 (s.leak.probation + 1)
        leak.high := if s.settings.probationRate ≤ x.rate then min 5 (s.leak.high + 1) else 0 }
      (5 ≤ counted.leak.high → exec .probationTrip counted = .next (finish (probationSample x s))) ∧
      (counted.leak.high < 5 → exec .probationEnd counted = .next (finish (probationSample x s))) ∧
      (counted.leak.high < 5 → s.leak.probation < 59 → probationSample x s = counted))) ∧
  (∀ (x : Sample) (s : State), held s = false →
    (isAt .shut 1 s = false → passingSample x s = s) ∧
    (isAt .shut 1 s = true →
      let low := x.supply < s.settings.trickle
      let counts := s.leak.passing < 30
      let counted : State := { s with
        leak.passing := if low then 0 else if counts then s.leak.passing + 1 else s.leak.passing
        leak.passingVolume := if low then 0
          else if counts then min 150000 (s.leak.passingVolume + x.supply) else s.leak.passingVolume }
      exec .shutoffPassing counted = .next (finish (passingSample x s)) ∧
        (low ∨ s.leak.passing < 29 ∨ s.leak.passingFlag = true → passingSample x s = counted)) ∧
    (let gap := s.settings.dripGap * 60
     let quiet := if x.household < s.settings.trickle then min gap (s.leak.quietRun + 1) else 0
     let counted : State := { s with
       leak.quietRun := quiet, leak.drip := min 86400 (s.leak.drip + 1), leak.longestRun := max s.leak.longestRun quiet }
     (quiet = gap → dripSample x s = { s with leak.quietRun := quiet, leak.drip := 0, leak.longestRun := 0 }) ∧
     (quiet ≠ gap → exec .dripSuspect counted = .next (finish (dripSample x s)) ∧
       (s.leak.drip < 86399 → dripSample x s = counted))))

/-- R147, R148: SHUTOFF_CLOSE adds COMMANDED and asks for the close where the set was empty; SHUTOFF_OPEN is refused by
the first condition of its table that holds, and otherwise removes COMMANDED and LEAK, begins probation where LEAK was
there, and asks for the open. R185: both replies are read from the state that the action leaves, after its follow-ups
(log 9). -/
def Obligations.ShutoffMessages : Prop :=
  ∀ (tag : Byte) (s : State), Listens s →
    let wet := ∃ p ∈ s.loop.pods, p.policy = .shutoff ∧ p.reported = .wet
    (∃ u, Answers (.shutoffClose tag) s 0xBB tag .ok
        (fun t => encReasons t.leak.closeSet ++ encStatus (valveRec .shut t).status) u ∧
      u.leak = { s.leak with closeSet := { s.leak.closeSet with commanded := true } } ∧
      (s.leak.closeSet = {} → u.valves = (postRequest .shut 1 .shutClose .shutoffControl s).valves) ∧
      (s.leak.closeSet ≠ {} → u.valves = s.valves) ∧
      u.writeDue = !s.leak.closeSet.commanded ∧ u.run = s.run ∧ u.bed = s.bed ∧ u.queue = s.queue) ∧
    (s.leak.closeSet.leak = true → s.leak.acknowledged = false →
      exec (.shutoffOpen tag) s = .next (withReply 0xBC tag .state [] s)) ∧
    (s.leak.closeSet.leak = true → wet → exec (.shutoffOpen tag) s = .next (withReply 0xBC tag .state [] s)) ∧
    ((s.leak.closeSet.leak = true → s.leak.acknowledged = true ∧ ¬wet) → s.leak.closeSet.dormant = true →
      exec (.shutoffOpen tag) s = .next (withReply 0xBC tag .power [] s)) ∧
    ((s.leak.closeSet.leak = true → s.leak.acknowledged = true ∧ ¬wet) → s.leak.closeSet.dormant = false →
      (valveRec .shut s).status = .fault → exec (.shutoffOpen tag) s = .next (withReply 0xBC tag .fault [] s)) ∧
    ((s.leak.closeSet.leak = true → s.leak.acknowledged = true ∧ ¬wet) → s.leak.closeSet.dormant = false →
      (valveRec .shut s).status ≠ .fault →
      ∃ u, Answers (.shutoffOpen tag) s 0xBC tag .ok (fun t => encReasons t.leak.closeSet ++
          u8 (leakStateCode t.leak.state) ++ encStatus (valveRec .shut t).status) u ∧
        u.leak.closeSet = {} ∧
        (s.leak.closeSet.leak = true → u.leak.state = .probation ∧ u.leak.probation = 0 ∧ u.leak.high = 0) ∧
        (s.leak.closeSet.leak = false → u.leak.state = s.leak.state) ∧
        (s.leak.closeSet ≠ {} → u.writeDue = true ∧
          u.valves = (postRequest .shut 0 .shutOpen .shutoffControl s).valves) ∧
        (s.leak.closeSet = {} → u.writeDue = false ∧ u.valves = s.valves))

/-- R133, R139, R145: SET_AWAY stores the mode and chooses the limits of an open episode again, EXTEND_EPISODE doubles
both limits once, ACK_LEAK acknowledges an isolating or isolated leak. Away mode's byte is 0 for on (log 11), any other
than 0 and 1 is refused; the limit class of the reply is absent with no episode open (log 54). -/
def Obligations.AwayExtendAndAcknowledge : Prop :=
  ∀ (tag : Byte) (s : State), Listens s →
    (∀ onOrOff, readAway onOrOff = none →
      exec (.setAway tag onOrOff) s = .next (withReply 0xB8 tag .badValue [] s)) ∧
    (∀ onOrOff b, readAway onOrOff = some b →
      ∃ t, exec (.setAway tag onOrOff) s = .next t ∧ t.leak.away = b ∧
        { t with leak := s.leak, link := s.link, store := s.store } = s ∧
        (s.leak.away = b → t = withReply 0xB8 tag .ok
          ([onOrOff] ++ opt 1 (fun e => u8 (limitClassCode e)) (s.leak.episode.map (·.cls))) s) ∧
        (s.leak.away ≠ b → Sends 0xB8 tag .ok
            ([onOrOff] ++ opt 1 (fun e => u8 (limitClassCode e)) (t.leak.episode.map (·.cls))) t ∧
          { t.leak with away := s.leak.away, episode := s.leak.episode } = s.leak ∧
          (s.leak.episode = none → t.leak.episode = none) ∧ Written s t ∧ ∀ e, s.leak.episode = some e →
          (e.cls = .fixture → t.leak.episode = some e) ∧
          (e.cls ≠ .fixture →
            let cls : LimitClass := if b then .away else if quietNow s then .quiet else .active
            let limits := match cls with
              | .away => (s.settings.awayDuration, s.settings.awayVolume)
              | .quiet => (s.settings.quietDuration, s.settings.quietVolume)
              | _ => (s.settings.activeDuration, s.settings.activeVolume)
            t.leak.episode = some { e with
              cls := cls
              durationLimit := (if e.extended then 2 else 1) * limits.1
              volumeLimit := (if e.extended then 2 else 1) * limits.2 }))) ∧
    (∀ e, s.leak.episode = some e → e.extended = false →
      exec (.extendEpisode tag) s = .next (withReply 0xB9 tag .ok
        (u16 (2 * e.durationLimit) ++ u16 (2 * e.volumeLimit)) { s with leak.episode := some { e with
          durationLimit := 2 * e.durationLimit, volumeLimit := 2 * e.volumeLimit, extended := true } })) ∧
    (s.leak.episode = none ∨ (∃ e, s.leak.episode = some e ∧ e.extended = true) →
      exec (.extendEpisode tag) s = .next (withReply 0xB9 tag .state [] s)) ∧
    (s.leak.state = .isolating ∨ s.leak.state = .isolated →
      ∃ t, exec (.ackLeak tag) s = .next t ∧ t.leak = { s.leak with acknowledged := true } ∧
        (s.leak.acknowledged = false → Written s t) ∧
        (t.alarm = true ↔ (∃ p ∈ s.loop.pods, p.reported = .wet ∧ p.acknowledged ≠ .wet) ∨
          (valveRec .shut s).status = .fault) ∧
        { t with leak := s.leak, link := s.link, store := s.store, alarm := s.alarm } = s ∧
        Sends 0xBA tag .ok (u8 (leakStateCode s.leak.state) ++ [1] ++ opt 16 encLeakRec s.leak.record) t) ∧
    (s.leak.state ≠ .isolating → s.leak.state ≠ .isolated →
      exec (.ackLeak tag) s = .next (withReply 0xBA tag .state [] s))

/-- R134, R135, R136: PUT_FIXTURE is checked in the order of its table and stores the record clamped, for id 0 in the
lowest empty slot, with a write also where the slot held the same record (log 41); an away byte above 1 is refused
before FULL (log 26); DROP_FIXTURE empties a slot; GET_FIXTURE reads one. -/
def Obligations.FixtureTableMessages : Prop :=
  ∀ (tag id : Byte) (s : State), Listens s →
    (∀ (low high minutes litres : BitVec 16) (hours : BitVec 24) (away : Byte),
      let command := Instr.putFixture tag id low high minutes litres hours away
      (16 < id.toNat ∨ high.toNat < low.toNat ∨ 1 < away.toNat → exec command s = .next (withReply 0xBD tag .badValue [] s)) ∧
      (away.toNat ≤ 1 → id = 0 → low.toNat ≤ high.toNat →
        (∀ n, 1 ≤ n → n ≤ 16 → slotOf s.leak.fixtures n ≠ none) →
        exec command s = .next (withReply 0xBD tag .full [] s)) ∧
      (∀ n, away.toNat ≤ 1 → low.toNat ≤ high.toNat → s.leak.fixtures.length = 16 → 1 ≤ n → n ≤ 16 →
        id.toNat = n ∨ (id = 0 ∧ slotOf s.leak.fixtures n = none ∧
          ∀ m, 1 ≤ m → m < n → slotOf s.leak.fixtures m ≠ none) →
        let carried : Fixture := ⟨low.toNat, high.toNat, minutes.toNat, litres.toNat, hours, away = 1⟩
        let stored : Fixture := ⟨min 3000 low.toNat, min 3000 high.toNat, max 1 (min 1440 minutes.toNat),
          max 1 (min 2000 litres.toNat), hours, away = 1⟩
        ∃ t, exec command s = .next t ∧ slotOf t.leak.fixtures n = some stored ∧
          (∀ m, m ≠ n → slotOf t.leak.fixtures m = slotOf s.leak.fixtures m) ∧
          { t with leak.fixtures := s.leak.fixtures, link := s.link, store := s.store } = s ∧ Written s t ∧
          Sends 0xBD tag (if stored = carried then .ok else .clamped) (u8 n ++ encFixture stored) t)) ∧
    (id.toNat < 1 ∨ 16 < id.toNat →
      exec (.dropFixture tag id) s = .next (withReply 0xBE tag .badValue [] s) ∧
      exec (.getFixture tag id) s = .next (withReply 0xBF tag .badValue [] s)) ∧
    (1 ≤ id.toNat → id.toNat ≤ 16 → slotOf s.leak.fixtures id.toNat = none →
      exec (.dropFixture tag id) s = .next (withReply 0xBE tag .notFound [] s) ∧
      exec (.getFixture tag id) s = .next (withReply 0xBF tag .notFound [] s)) ∧
    (∀ f, 1 ≤ id.toNat → id.toNat ≤ 16 → slotOf s.leak.fixtures id.toNat = some f →
      exec (.getFixture tag id) s = .next (withReply 0xBF tag .ok (encFixture f) s) ∧
      ∃ t, exec (.dropFixture tag id) s = .next t ∧ slotOf t.leak.fixtures id.toNat = none ∧
        (∀ m, m ≠ id.toNat → slotOf t.leak.fixtures m = slotOf s.leak.fixtures m) ∧
        { t with leak.fixtures := s.leak.fixtures, link := s.link, store := s.store } = s ∧ Written s t ∧
        Sends 0xBE tag .ok [] t)

/-! ## Chapter 9 -/

/-- R157, R158, R159, R160, R161: a poll timer at 0 outside DORMANT is loaded with the period of the regime, and a cycle
begins with the lowest address of the table unless one is in progress; what the end of a POLL leaves in the record of
the polled pod, for a miss and for a clean STATUS; a SHUTOFF pod that comes to be wet trips the Leak Monitor; POD_SILENT
makes an ACTIVE pod of three misses SILENT. An expiry while a cycle is in progress loads the timer alone (log 21), and
elsewhere the two commands change nothing (log 1). R157: the timer counts outside DORMANT and expires at 0; DORMANT
stops the cycle at the end of the transaction in flight and mutes a listen that runs (R165), and leaving it begins a
cycle at once, the first since DORMANT; with no pod, no release and a muted listen that cycle sends nothing and is over
in the same action, with none running it sends the recovery DISCOVER (R166). -/
def Obligations.PollCycleReadsThePods : Prop :=
  (∀ s : State, AtRest s →
     let period := if s.supply.regime = .mains then 10 else 60
     (∀ x, s.loop.pollTimer = 0 → s.supply.regime ≠ .dormant → s.loop.inFlight = some x →
       exec .pollTimerExpiry s = .next { s with loop.pollTimer := period }) ∧
     (∀ p rest, s.loop.pollTimer = 0 → s.supply.regime ≠ .dormant → s.loop.inFlight = none →
       s.loop.pods = p :: rest → 0 < p.address →
       exec .pollTimerExpiry s = .next { s with
         loop.pollTimer := period, loop.lastPolled := p.address, loop.pollsOver := false
         loop.closingOver := false, loop.toRelease := [], loop.inFlight := some (.poll p.address) }) ∧
     (s.loop.pollTimer ≠ 0 ∨ s.supply.regime = .dormant → exec .pollTimerExpiry s = .next s)) ∧
  (∀ (a : Nat) (p : Pod) (s : State), AtRest s → s.loop.inFlight = some (.poll a) → podAt a s = some p →
     (∃ t, exec (.pollEnd .miss) s = .next t ∧
       podAt a t = some { p with
         misses := min 3 (p.misses + 1), status := if 3 ≤ p.misses + 1 then .silent else p.status } ∧
       (∀ b, b ≠ a → podAt b t = podAt b s) ∧
       (3 ≤ p.misses + 1 → p.status = .active → ∃ e ∈ t.link.events, eventCode e.event = 0x1B) ∧
       { t with loop := s.loop, link := s.link, alarm := s.alarm } = s) ∧
     (∀ r : PodReport,
       let new := stateOfWord r.state
       let wetted := new = .wet ∧ p.reported ≠ .wet
       ∃ u, exec (.pollEnd (.clean r)) s = .next (finish u) ∧
         podAt a u = some { p with
           misses := 0, status := .active, lastReply := some s.time.counter, reported := new
           acknowledged := if p.reported ≠ new ∧ new ≠ .wet ∧ p.acknowledged = .wet then new else p.acknowledged
           battery := r.battery
           batteryLow := match r.battery with
             | none => p.batteryLow
             | some mv => if mv < 2600 then true else if 2700 ≤ mv then false else p.batteryLow
           temperature := r.temperature
           cold := match r.temperature with
             | none => p.cold
             | some d => if d ≤ s.settings.freezeThreshold then true
               else if s.settings.freezeThreshold + 4 ≤ d then false else p.cold } ∧
         (∀ b, b ≠ a → podAt b u = podAt b s) ∧
         (wetted → p.acknowledged ≠ .wet → ∃ e ∈ u.link.events, eventCode e.event = 0x1A) ∧
         (wetted → p.policy = .shutoff → s.leak.state ≠ .isolating → s.leak.state ≠ .isolated →
           u.leak.record = some
             ⟨.pod, s.time.counter, s.time.clock, (s.leak.episode.map (·.volume)).getD 0, some a⟩ ∧
           u.leak.closeSet.leak = true ∧ (u.leak.state = .isolating ∨ u.leak.state = .isolated)) ∧
         (¬wetted ∨ p.policy = .alarm ∨ s.leak.state = .isolating ∨ s.leak.state = .isolated →
           u.leak = s.leak ∧ u.valves = s.valves) ∧
         u.bed = s.bed ∧ u.run = s.run ∧ u.brine = s.brine ∧ u.meter = s.meter)) ∧
  (∀ s : State, AtRest s →
     (∀ front p back, s.loop.pods = front ++ p :: back → (∀ q ∈ front, q.misses < 3 ∨ q.status = .silent) →
       3 ≤ p.misses → p.status = .active → (∀ q ∈ front ++ back, q.address ≠ p.address) →
       exec .podSilent s = .next (refreshLines { s with
         loop.pods := front ++ { p with status := .silent } :: back
         link.events := insertEvent s.time.counter (.podSilent p.address p.serial p.reported) s.link.events })) ∧
     ((∀ q ∈ s.loop.pods, q.misses < 3 ∨ q.status = .silent) → exec .podSilent s = .next s)) ∧
  (∀ s : State, held s = false →
     (s.supply.regime = .dormant → pollSecond s = s) ∧
     (s.supply.regime ≠ .dormant →
       exec .pollTimerExpiry { s with loop.pollTimer := s.loop.pollTimer - 1 } = .next (finish (pollSecond s)) ∧
         (1 < s.loop.pollTimer → pollSecond s = { s with loop.pollTimer := s.loop.pollTimer - 1 }))) ∧
  (∀ s : State,
     loopRegime .mains .reserve s = s ∧
     loopRegime .reserve .mains s = { s with loop.pollTimer := min s.loop.pollTimer 10 } ∧
     (∀ before, loopRegime before .dormant s = { s with
       loop.stopping := s.loop.inFlight.isSome, loop.listen.muted := s.loop.listen.running }) ∧
     (let t := loopRegime .dormant .reserve s
      (∀ x, s.loop.inFlight = some x →
        t.loop.inFlight = some x ∧ t.loop.stopping = s.loop.stopping ∧ t.loop.firstSinceDormant = true) ∧
      (∀ p rest, s.loop.inFlight = none → s.loop.pods = p :: rest → 0 < p.address →
        t.loop.inFlight = some (.poll p.address) ∧ t.loop.firstSinceDormant = true) ∧
      (s.loop.inFlight = none → s.loop.pods = [] → s.loop.releases = [] →
        (s.loop.listen.running = true → s.loop.listen.muted = true →
          t.loop.inFlight = none ∧ t.loop.firstSinceDormant = false) ∧
        (s.loop.listen.running = true → s.loop.listen.muted = false →
          t.loop.firstSinceDormant = true ∧ t.loop.inFlight = some (match s.loop.listen.candidate with
            | some offer => .enrolAssign offer false
            | none => .enrolDiscover)) ∧
        (s.loop.listen.running = false →
          t.loop.inFlight = some .recoveryDiscover ∧ t.loop.firstSinceDormant = true)) ∧
      (∀ r rest, s.loop.inFlight = none → s.loop.pods = [] → s.loop.releases = r :: rest →
        t.loop.inFlight = some (.release ⟨r.serial, r.address⟩) ∧ t.loop.firstSinceDormant = true) ∧
      t.loop.pods = s.loop.pods ∧ { t with loop := s.loop } = s)) ∧
  (∀ (a : Nat) (o : PollOutcome) (s : State), held s = false → s.loop.inFlight = some (.poll a) →
     ∃ u, exec (.pollEnd o) s = .next (finish u) ∧ (∀ b, b ≠ a → podAt b u = podAt b s) ∧
       (s.supply.regime = .dormant → u.loop.inFlight = none ∧ u.loop.stopping = false) ∧
       (∀ p rest, s.supply.regime ≠ .dormant → s.loop.stopping = true → s.loop.pods = p :: rest → 0 < p.address →
         u.loop.inFlight = some (.poll p.address) ∧ u.loop.stopping = false) ∧
       (s.supply.regime ≠ .dormant → s.loop.stopping = false → s.loop.pollsOver = false → s.loop.lastPolled = a →
         ∀ front p back, s.loop.pods = front ++ p :: back → (∀ q ∈ front, q.address ≤ a) → a < p.address →
           u.loop.inFlight = some (.poll p.address)))

/-- R164, R165: the enrolment DISCOVER offers the lowest free address to a new pod, or its own address to one of the
table; a clean CONFIRM of the offer enrols the pod and ends the listen; anything else leaves the table as it was; a
listen whose seconds are spent ends with no pod, at its expiry or at the end of the enrolment transaction in flight,
where a serial just answered is named in ENROL_DONE (log 21); elsewhere LISTEN_EXPIRY changes nothing (log 1). R163: the
seconds of a running listen count down at each second, before the poll timer (log 21). In DORMANT no further transaction
follows (R157); an ASSIGN then in flight still enrols at a clean CONFIRM (log 52). R158, R164, R165, R166: after the
last POLL of a cycle with no release to send, a running listen sends ASSIGN to its candidate, or DISCOVER without one;
one that has run into DORMANT sends nothing more, and the cycle ends, DORMANT left or not; with no listen running a
recovery DISCOVER is sent in the first cycle since DORMANT or with another pod SILENT. -/
def Obligations.EnrolmentTransactions : Prop :=
  (∀ s : State, AtRest s → s.supply.regime ≠ .dormant →
    (∀ serial a, s.loop.inFlight = some .enrolDiscover → s.loop.stopping = false → podOfSerial serial s = none →
      lowestFree s = some a →
      ¬(s.loop.listen.running = true ∧ s.loop.listen.seconds = 0) →
      exec (.enrolDiscoverEnd (some serial)) s = .next { s with
        loop.listen.candidate := some ⟨serial, a⟩, loop.inFlight := some (.enrolAssign ⟨serial, a⟩ false) } ∧
      1 ≤ a ∧ a ≤ 63 ∧ addressFree a s = true ∧ (∀ b, 1 ≤ b → b < a → addressFree b s = false)) ∧
    (∀ serial p, s.loop.inFlight = some .enrolDiscover → s.loop.stopping = false → podOfSerial serial s = some p →
      ¬(s.loop.listen.running = true ∧ s.loop.listen.seconds = 0) →
      exec (.enrolDiscoverEnd (some serial)) s = .next { s with
        loop.inFlight := some (.enrolAssign ⟨serial, p.address⟩ true) }) ∧
    (s.loop.inFlight = some .enrolDiscover → ∃ t, exec (.enrolDiscoverEnd none) s = .next t ∧
      t.loop.pods = s.loop.pods ∧ { t with loop := s.loop, link := s.link } = s) ∧
    (∀ o, s.loop.inFlight = some (.enrolAssign o false) →
      ∃ t, exec (.enrolAssignEnd (some o.address)) s = .next t ∧ t.loop.listen.running = false ∧
        t.loop.listen.candidate = none ∧ t.loop.pods.length = s.loop.pods.length + 1 ∧
        ({ address := o.address, serial := o.serial, policy := s.loop.listen.policy } : Pod) ∈ t.loop.pods ∧
        (∀ p ∈ s.loop.pods, p ∈ t.loop.pods) ∧ (∃ e ∈ t.link.events, eventCode e.event = 0x1E) ∧
        Written s t ∧ { t with loop := s.loop, link := s.link, store := s.store, alarm := s.alarm } = s) ∧
    (∀ o known confirmed, s.loop.inFlight = some (.enrolAssign o known) →
      known = true ∨ confirmed ≠ some o.address →
      ∃ t, exec (.enrolAssignEnd confirmed) s = .next t ∧ t.loop.pods = s.loop.pods ∧
        (s.loop.listen.running = true → s.loop.listen.seconds ≠ 0 → t.loop.listen = s.loop.listen) ∧
        { t with loop := s.loop, link := s.link } = s) ∧
    (s.loop.listen.running = true → s.loop.listen.seconds = 0 →
      s.loop.inFlight ≠ some .enrolDiscover → (∀ o k, s.loop.inFlight ≠ some (.enrolAssign o k)) →
      exec .listenExpiry s = .next (refreshLines { s with
        loop.listen := { s.loop.listen with running := false, candidate := none }
        link.events := insertEvent s.time.counter (.enrolDone none
          (s.loop.listen.candidate.map (·.serial)) s.loop.listen.policy) s.link.events })) ∧
    (s.loop.listen.running = false ∨ s.loop.listen.seconds ≠ 0 → exec .listenExpiry s = .next s) ∧
    (∀ serial, s.loop.inFlight = some .enrolDiscover → podOfSerial serial s = none → lowestFree s ≠ none →
      s.loop.listen.running = true → s.loop.listen.seconds = 0 →
      ∃ t, exec (.enrolDiscoverEnd (some serial)) s = .next t ∧ t.loop.pods = s.loop.pods ∧
        t.loop.listen = { s.loop.listen with running := false, candidate := none } ∧
        t.link.events = insertEvent s.time.counter (.enrolDone none (some serial) s.loop.listen.policy)
          s.link.events)) ∧
  (∀ s : State, held s = false →
    (s.loop.listen.running = false → listenSecond s = s) ∧
    (s.loop.listen.running = true →
      let counted : State :=
        { s with loop.listen := { s.loop.listen with seconds := s.loop.listen.seconds - 1 } }
      exec .listenExpiry counted = .next (finish (listenSecond s)) ∧
        (1 < s.loop.listen.seconds → listenSecond s = counted)) ∧
    loopSecond s = pollSecond (listenSecond s)) ∧
  (∀ s : State, AtRest s → s.supply.regime = .dormant →
    (∀ answer, s.loop.inFlight = some .enrolDiscover → ∃ t, exec (.enrolDiscoverEnd answer) s = .next t ∧
      t.loop.inFlight = none ∧ t.loop.stopping = false ∧ t.loop.pods = s.loop.pods) ∧
    (∀ o known confirmed, s.loop.inFlight = some (.enrolAssign o known) →
      ∃ t, exec (.enrolAssignEnd confirmed) s = .next t ∧ t.loop.inFlight = none ∧ t.loop.stopping = false ∧
        (known = false → confirmed = some o.address → t.loop.pods.length = s.loop.pods.length + 1) ∧
        (known = true ∨ confirmed ≠ some o.address → t.loop.pods = s.loop.pods))) ∧
  (∀ (a : Nat) (o : PollOutcome) (s : State), held s = false → s.supply.regime ≠ .dormant →
    s.loop.inFlight = some (.poll a) → s.loop.stopping = false → s.loop.pollsOver = false →
    s.loop.closingOver = false → (∀ p ∈ s.loop.pods, p.address ≤ s.loop.lastPolled) → s.loop.releases = [] →
    ∃ u, exec (.pollEnd o) s = .next (finish u) ∧ u.loop.listen = s.loop.listen ∧
      (s.loop.listen.running = true →
        u.loop.inFlight = if s.loop.listen.muted = true then none
          else match s.loop.listen.candidate with
            | some offer => some (.enrolAssign offer false)
            | none => some .enrolDiscover) ∧
      (s.loop.listen.running = false →
        (s.loop.firstSinceDormant = true ∨ (∃ p ∈ s.loop.pods, p.address ≠ a ∧ p.status = .silent) →
          u.loop.inFlight = some .recoveryDiscover) ∧
        (s.loop.firstSinceDormant = false → s.loop.pods = [] → u.loop.inFlight = none)))

/-- R166, R167: recovery sends an enrolled pod its own address again and never changes the table; a release is over at a
CONFIRM of address 0 or at its third try, and it alone: another release, of the same serial too, stands, and so does the
one whose ASSIGN is not confirmed below its third try. The ASSIGN of a release raises its own try count; the releases of
a cycle are those held when its first POLLs are over (log 21). In DORMANT no further transaction follows (R157). -/
def Obligations.RecoveryAndReleaseTransactions : Prop :=
  (∀ s : State, AtRest s → s.supply.regime ≠ .dormant →
    (∀ serial p, s.loop.inFlight = some .recoveryDiscover → s.loop.stopping = false → podOfSerial serial s = some p →
      exec (.recoveryDiscoverEnd (some serial)) s = .next { s with
        loop.inFlight := some (.recoveryAssign ⟨p.serial, p.address⟩) }) ∧
    (∀ answer, s.loop.inFlight = some .recoveryDiscover → (∀ n, answer = some n → podOfSerial n s = none) →
      ∃ t, exec (.recoveryDiscoverEnd answer) s = .next t ∧ t.loop.pods = s.loop.pods ∧
        t.loop.listen = s.loop.listen ∧ { t with loop := s.loop } = s) ∧
    (∀ o confirmed, s.loop.inFlight = some (.recoveryAssign o) →
      ∃ t, exec (.recoveryAssignEnd confirmed) s = .next t ∧ t.loop.pods = s.loop.pods ∧
        t.loop.listen = s.loop.listen ∧ { t with loop := s.loop } = s) ∧
    (∀ o confirmed, s.loop.inFlight = some (.release o) →
      let its := fun (r : Release) => r.serial = o.serial ∧ r.address = o.address
      ∃ t, exec (.releaseAssignEnd confirmed) s = .next t ∧ t.loop.pods = s.loop.pods ∧
        (confirmed = some 0 → ∀ r ∈ t.loop.releases, ¬its r) ∧
        ((∀ r ∈ s.loop.releases, its r → 3 ≤ r.tries) → ∀ r ∈ t.loop.releases, ¬its r) ∧
        (∀ r ∈ s.loop.releases, ¬its r ∨ (confirmed ≠ some 0 ∧ r.tries < 3) →
          ∃ r' ∈ t.loop.releases, r'.serial = r.serial ∧ r'.address = r.address ∧ r.tries ≤ r'.tries) ∧
        { t with loop := s.loop } = s) ∧
    (∀ a r rest, s.loop.inFlight = some (.poll a) → s.loop.stopping = false → s.loop.pollsOver = false →
      (∀ p ∈ s.loop.pods, p.address ≤ s.loop.lastPolled) → podAt a s = none →
      s.loop.releases = r :: rest → (∀ q ∈ rest, q.serial ≠ r.serial ∨ q.address ≠ r.address) →
      ∃ t, exec (.pollEnd .miss) s = .next t ∧ t.loop.inFlight = some (.release ⟨r.serial, r.address⟩) ∧
        t.loop.releases = { r with tries := r.tries + 1 } :: rest ∧
        t.loop.toRelease = rest.map (fun q => ⟨q.serial, q.address⟩))) ∧
  (∀ s : State, AtRest s → s.supply.regime = .dormant →
    let stops := fun (command : Instr) => ∃ t, exec command s = .next t ∧ t.loop.inFlight = none ∧
      t.loop.stopping = false ∧ t.loop.pods = s.loop.pods ∧ t.loop.listen = s.loop.listen
    (∀ answer, s.loop.inFlight = some .recoveryDiscover → stops (.recoveryDiscoverEnd answer)) ∧
    (∀ o confirmed, s.loop.inFlight = some (.recoveryAssign o) → stops (.recoveryAssignEnd confirmed)) ∧
    (∀ o confirmed, s.loop.inFlight = some (.release o) → stops (.releaseAssignEnd confirmed)))

/-- R162, R163, R167, R168: the messages of the pod table, with their refusals. -/
def Obligations.PodTableMessages : Prop :=
  ∀ (tag address policy : Byte) (s : State), Listens s →
    (∀ pol, readPolicy policy = some pol →
      (s.loop.listen.running = true → exec (.enrolPod tag policy) s = .next (withReply 0xC0 tag .busy [] s)) ∧
      (s.loop.listen.running = false → 24 ≤ s.loop.pods.length →
        exec (.enrolPod tag policy) s = .next (withReply 0xC0 tag .full [] s)) ∧
      (s.loop.listen.running = false → s.loop.pods.length < 24 →
        exec (.enrolPod tag policy) s = .next (withReply 0xC0 tag .ok (encListen ⟨true, pol, 60, none, false⟩)
          { s with loop.listen := ⟨true, pol, 60, none, false⟩ }))) ∧
    (readPolicy policy = none →
      exec (.enrolPod tag policy) s = .next (withReply 0xC0 tag .badValue [] s) ∧
      exec (.setPodPolicy tag address policy) s = .next (withReply 0xC4 tag .badValue [] s)) ∧
    (address.toNat < 1 ∨ 63 < address.toNat →
      exec (.retirePod tag address) s = .next (withReply 0xC1 tag .badValue [] s) ∧
      exec (.ackPod tag address) s = .next (withReply 0xC2 tag .badValue [] s) ∧
      exec (.setPodPolicy tag address policy) s = .next (withReply 0xC4 tag .badValue [] s)) ∧
    (1 ≤ address.toNat → address.toNat ≤ 63 → podAt address.toNat s = none →
      exec (.retirePod tag address) s = .next (withReply 0xC1 tag .notFound [] s) ∧
      exec (.ackPod tag address) s = .next (withReply 0xC2 tag .notFound [] s) ∧
      (readPolicy policy ≠ none →
        exec (.setPodPolicy tag address policy) s = .next (withReply 0xC4 tag .notFound [] s))) ∧
    (∀ p, 1 ≤ address.toNat → address.toNat ≤ 63 → podAt address.toNat s = some p →
      (∃ t, exec (.retirePod tag address) s = .next t ∧
        t.loop.pods = s.loop.pods.filter (fun q => q.address != address.toNat) ∧
        (⟨p.serial, p.address, 0⟩ : Release) ∈ t.loop.releases ∧ Written s t ∧ t.leak = s.leak ∧
        t.alarm = alarmLine t ∧ { t with loop := s.loop, link := s.link, store := s.store, alarm := s.alarm } = s ∧
        Sends 0xC1 tag .ok (u8 p.address ++ u32 p.serial) t) ∧
      (∃ t, exec (.ackPod tag address) s = .next t ∧
        podAt address.toNat t = some { p with acknowledged := p.reported } ∧
        (∀ b, b ≠ address.toNat → podAt b t = podAt b s) ∧ (p.acknowledged ≠ p.reported → Written s t) ∧
        t.alarm = alarmLine t ∧ { t with loop := s.loop, link := s.link, store := s.store, alarm := s.alarm } = s ∧
        Sends 0xC2 tag .ok (encPod { p with acknowledged := p.reported }) t) ∧
      (∀ pol, readPolicy policy = some pol →
        ∃ u, Answers (.setPodPolicy tag address policy) s 0xC4 tag .ok
            (fun _ => encPod { p with policy := pol }) u ∧
          podAt address.toNat u = some { p with policy := pol } ∧
          (∀ b, b ≠ address.toNat → podAt b u = podAt b s) ∧ u.writeDue = decide (p.policy ≠ pol) ∧
          (p.policy = .alarm → pol = .shutoff → p.reported = .wet →
            s.leak.state = .watch ∨ s.leak.state = .suspect ∨ s.leak.state = .probation →
            u.leak.closeSet.leak = true ∧ (u.leak.state = .isolating ∨ u.leak.state = .isolated)) ∧
          (p.policy = pol ∨ pol = .alarm ∨ p.reported ≠ .wet → u.leak = s.leak)))

/-! ## Chapter 10 -/

/-- R171, R172, R173, R174: the sense input acts on the regime only where it changes (log 34): mains lost leaves MAINS
for RESERVE, mains sensed ends DORMANT and the dormant close wait, and both start the confirmation again. Mains
confirmed for five seconds makes MAINS of RESERVE and takes DORMANT out of the close-reason set; ten low readings begin
the dormant sequence; the close wait at its end, or answered by V_SHUT, enters DORMANT, where the receiver drops what it
was collecting; elsewhere each command changes nothing (log 1), and in reset a change of the sense input sets the input
alone (log 8). A second counts the confirmation in RESERVE with mains present and the close wait; a BATT reading of an
invalid channel, or one below the threshold, counts as low where it is tested. -/
def Obligations.RegimeFollowsMainsAndBattery : Prop :=
  (∀ s : State,
     (AtRest s → s.supply.mainsPresent = true →
       ∃ u, exec (.mainsSenseChange false) s = .next (finish u) ∧
         u.supply = { s.supply with
           mainsPin := false, mainsPresent := false, confirm := 0
           regime := if s.supply.regime = .mains then .reserve else s.supply.regime } ∧
         (s.supply.regime = .mains → (∃ p ∈ u.link.events, eventCode p.event = 4) ∧
           ∀ c, s.run.ctx = some c → c.state ≠ .finishing →
             ∃ c', u.run.ctx = some c' ∧ c'.state = .suspended ∧ c'.susPower = true ∧ c'.holdCount = 0 ∧
               c'.releaseCount = 0 ∧ c'.slot = c.slot ∧ c'.elapsed = c.elapsed) ∧
         u.bed = s.bed ∧ u.leak = s.leak ∧ u.brine = s.brine) ∧
     (AtRest s → s.supply.mainsPresent = false →
       ∃ u, exec (.mainsSenseChange true) s = .next (finish u) ∧
         u.supply = { s.supply with
           mainsPin := true, mainsPresent := true, confirm := 0, closeWait := none
           regime := if s.supply.regime = .dormant then .reserve else s.supply.regime } ∧
         (s.supply.regime = .dormant → u.loop.pollTimer = 60) ∧
         u.bed = s.bed ∧ u.leak = s.leak ∧ u.brine = s.brine) ∧
     (∀ level, AtRest s → s.supply.mainsPresent = level →
       exec (.mainsSenseChange level) s = .next { s with supply.mainsPin := level }) ∧
     (∀ level, held s = true → exec (.mainsSenseChange level) s = .next { s with supply.mainsPin := level })) ∧
  (∀ s : State, AtRest s → s.supply.regime = .reserve →
     let answered := (valveRec .shut s).status = .atPos 1 ∨ (valveRec .shut s).status = .fault
     let entered := fun (u : State) =>
       u.supply.regime = .dormant ∧ u.supply.closeWait = none ∧ u.writeDue = true ∧ u.link.rx = .hunt ∧
         u.link.collected = [] ∧ ∃ p ∈ u.link.events, eventCode p.event = 4
     (s.supply.mainsPresent = true → 5 ≤ s.supply.confirm →
       ∃ u, exec .mainsConfirmed s = .next (finish u) ∧ u.supply = { s.supply with regime := .mains } ∧
         u.leak = { s.leak with closeSet := { s.leak.closeSet with dormant := false } } ∧
         (∃ p ∈ u.link.events, eventCode p.event = 4) ∧ (s.run.ctx = none → u.bed = s.bed ∧ u.brine = s.brine)) ∧
     (s.supply.mainsPresent = false ∨ s.supply.confirm < 5 → exec .mainsConfirmed s = .next s) ∧
     (s.supply.mainsPresent = false → s.supply.closeWait = none → 10 ≤ s.supply.lowCount →
       ∃ u, exec .dormantSequence s = .next (finish u) ∧ u.supply.lowCount = 0 ∧
         (s.settings.dormantAction = .hold → entered u ∧ u.leak = s.leak) ∧
         (s.settings.dormantAction = .close →
           u.leak = { s.leak with closeSet := { s.leak.closeSet with dormant := true } } ∧
           (answered → entered u) ∧
           (¬answered → u.supply.regime = .reserve ∧ u.supply.closeWait = some 60 ∧
             (s.leak.closeSet = {} → u.valves = (postRequest .shut 1 .shutClose .shutoffControl s).valves)))) ∧
     (s.supply.lowCount < 10 ∨ s.supply.mainsPresent = true ∨ s.supply.closeWait ≠ none →
       exec .dormantSequence s = .next s) ∧
     (s.supply.closeWait = some 0 → ∃ u, exec .dormantCloseWaitExpiry s = .next (finish u) ∧ entered u) ∧
     (s.supply.closeWait ≠ some 0 → exec .dormantCloseWaitExpiry s = .next s) ∧
     (∀ n, s.supply.closeWait = some n → n = 0 ∨ answered →
       ∃ u, exec .dormantEntry s = .next (finish u) ∧ entered u) ∧
     (∀ n, s.supply.closeWait = some n → n ≠ 0 → ¬answered → exec .dormantEntry s = .next s) ∧
     (s.supply.closeWait = none → exec .dormantEntry s = .next s)) ∧
  (∀ s : State, AtRest s → s.supply.regime ≠ .reserve →
     exec .mainsConfirmed s = .next s ∧ exec .dormantSequence s = .next s ∧
       exec .dormantCloseWaitExpiry s = .next s ∧ exec .dormantEntry s = .next s) ∧
  (∀ s : State, held s = false →
     let confirming := s.supply.regime = .reserve ∧ s.supply.mainsPresent = true
     let confirmed : State := { s with supply.confirm := min 5 (s.supply.confirm + 1) }
     (¬confirming → confirmSecond s = s) ∧
     (confirming → exec .mainsConfirmed confirmed = .next (finish (confirmSecond s)) ∧
       (s.supply.confirm < 4 → confirmSecond s = confirmed)) ∧
     (s.supply.closeWait = none → waitSecond s = s) ∧
     (∀ n, s.supply.closeWait = some n →
       let waited : State := { s with supply.closeWait := some (n - 1) }
       exec .dormantCloseWaitExpiry waited = .next (finish (waitSecond s)) ∧ (1 < n → waitSecond s = waited)) ∧
     supplySecond s = waitSecond (confirmSecond s)) ∧
  (∀ s : State, held s = false →
     let tested := s.supply.regime = .reserve ∧ s.supply.mainsPresent = false ∧ s.supply.closeWait = none
     let low := s.analog.batt.valid = false ∨
       ∃ v, s.analog.batt.lastGood = some v ∧ v < s.settings.dormantThreshold
     let counted := fun (n : Nat) => ({ s with supply.lowCount := n } : State)
     (¬tested → battReading s = counted 0) ∧
     (tested → ¬low → battReading s = counted 0) ∧
     (tested → low →
       exec .dormantSequence (counted (min 10 (s.supply.lowCount + 1))) = .next (finish (battReading s)) ∧
         (s.supply.lowCount < 9 → battReading s = counted (s.supply.lowCount + 1))))

/-- R129, R152, R176, R177, R180, R184, R192: a reset taken frees the driver, cuts a reply short and deasserts both
lines, and a LINK reset still due is dropped with it (log 48); a PIN reset waits for the end of a write, unless one
already held stands in its place (log 46), a SUPPLY or BROWNOUT reset does not and spoils the image. RESET is
answered and its LINK reset falls due; once the reply is out, LINK_RESET takes it (log 17): NORMAL resets the part and
FACTORY has the factory image written first; with none due the command changes nothing (log 1). -/
def Obligations.ResetsAreTakenOrHeld : Prop :=
  (∀ s : State, held s = false →
     let taken := fun (call : ResetCall) (t : State) =>
       t.resets.inReset = some call ∧ t.resets.held = none ∧ t.valves = { s.valves with grant := none } ∧
         t.link.reply = none ∧ t.resets.linkDue = none ∧ t.link.attn = false ∧ t.alarm = false ∧
         t.store.writing = none ∧
         t.time = s.time ∧ t.bed = s.bed ∧ t.pending = s.pending
     (∀ cause, ∃ t, exec (.resetAsserted cause) s = .next t ∧
       (cause = .supply → taken { kind := .supply } t) ∧ (cause = .brownout → taken { kind := .brownout } t) ∧
       (cause ≠ .pin → t.store.image = if s.store.writing = none then s.store.image else none) ∧
       (cause = .pin → s.store.writing = none → taken { kind := .pin } t ∧ t.store.image = s.store.image) ∧
       (cause = .pin → s.store.writing ≠ none → s.resets.held = none →
         t = { s with resets := { s.resets with held := some { kind := .pin }, linkDue := none } }) ∧
       (cause = .pin → s.store.writing ≠ none → s.resets.held ≠ none → t = s)) ∧
     (∀ img call, s.store.writing = some img → s.resets.held = some call →
       call.option = .normal ∨ img = factoryImage →
       ∃ t, exec .writeEnd s = .next t ∧ taken call t ∧ t.store.image = some img)) ∧
  (∀ (tag option : Byte) (s : State), Listens s →
     (∀ o, readResetOption option = some o →
       exec (.reset tag option) s = .next (withReply 0xFF tag .ok [] { s with resets := { s.resets with linkDue := some o } })) ∧
     (readResetOption option = none → exec (.reset tag option) s = .next (withReply 0xFF tag .badValue [] s)) ∧
     (s.resets.linkDue = none → exec .linkReset s = .next s) ∧
     (s.resets.linkDue = some .normal → s.store.writing = none →
       ∃ t, exec .linkReset s = .next t ∧ t.resets.inReset = some { kind := .link } ∧ t.store.image = s.store.image ∧
         t.alarm = false ∧ t.link.attn = false ∧ t.valves.grant = none ∧ t.time = s.time) ∧
     (s.resets.linkDue = some .factory → s.store.writing = none → s.resets.held = none →
       ∃ t, exec .linkReset s = .next t ∧ t.store.writing = some factoryImage ∧ t.resets.inReset = none ∧
         t.resets.held = some { kind := .link, option := .factory } ∧
         { t with store := s.store, resets := s.resets } = s))

/-- R2, R175, R178: a part with no image restarts from a SUPPLY reset in the state State.reset, which the model's log 5
names, whatever it held before, with its inputs as logs 6 and 12 take them. -/
def Obligations.ColdRestartGivesTheResetState : Prop :=
  ∀ s : State, s.resets.inReset = some { kind := .supply } → s.store.image = none → s.pending = [] →
    s.supply.mainsPin = true → s.valves.shut.sense = .span 0 → s.valves.flt.sense = .span 0 →
    s.valves.soft.sense = .span 0 → s.freeSeed = 0 → exec .restart s = .next State.reset

/-- R2, R23, R46, R62, R85, R100, R102, R153, R156, R170, R175, R177, R178, R179: a restart from a valid image restores
each block's part of it (the tank records with the serving tank graded anew, the whole brine record with its counters,
ring and stage, its height at 0 until a reading is taken (log 32), the entry pointers, the queue's entries and unit
deferrals and the re-queue holds, whose classes the metered class of the new grade can only raise), sets everything else
as for a reset, keeps the clock but for SUPPLY, and raises RESET; a run in the step-entry copy is restored suspended and
parked and marked so (log 51), aborted at the third restart without progress, or restored in FINISHING with its outcome
and the copy as it was (log 47). -/
def Obligations.RestartRestoresImageAndRun : Prop :=
  (∀ (call : ResetCall) (img : Image) (s : State), s.resets.inReset = some call → s.store.image = some img →
     img.copy = none →
     ∃ u, exec .restart s = .next (finish u) ∧
       u.resets.inReset = none ∧ u.resets.record = ⟨call.kind, call.option, true, false⟩ ∧
       (∃ p ∈ u.link.events, p.event = .reset call.kind call.option true false ∧ p.time = 0) ∧
       (∀ p ∈ u.link.events, eventCode p.event ≠ 2) ∧
       u.time = { clock := if call.kind = .supply then {} else s.time.clock, counter := 0, quietMap := img.quietMap } ∧
       ((∃ p ∈ u.link.events, eventCode p.event = 3) ↔ call.kind = .supply) ∧
       u.settings = img.settings ∧ u.meter = { dayAccum := img.dayAccum, days := img.days } ∧ u.analog = {} ∧
       u.bed.factor = img.factor ∧ u.bed.compensated = img.settings.hardness +
         img.settings.iron * img.settings.ironWeight / 100 ∧
       u.run.table = img.table ∧ u.run.softEntry = img.softEntry ∧ u.run.filterEntry = img.filterEntry ∧
       u.run.ctx = none ∧
       u.queue.grant = none ∧
       u.queue.still = 0 ∧ u.queue.keptRate = none ∧
       u.filter = { volume := img.filterVolume, days := img.filterDays, trigger := img.trigger } ∧
       (∀ v, (valveRec v u).status = .unknown ∧ (valveRec v u).lastDir = none) ∧
       u.leak.state = (if img.closeSet.leak then .isolated else .watch) ∧ u.leak.closeSet = img.closeSet ∧
       u.leak.record = img.record ∧ u.leak.acknowledged = img.acknowledged ∧ u.leak.fixtures = img.fixtures ∧
       u.leak.away = img.away ∧ u.leak.episode = none ∧ u.leak.burst = none ∧
       u.loop.pods = img.pods.map (fun p => { address := p.address, serial := p.serial, policy := p.policy
                                              acknowledged := p.acknowledged }) ∧
       u.supply.regime = .reserve ∧ u.link.mask = img.mask ∧ u.link.rx = .hunt ∧ u.link.state = .listening) ∧
  (∀ (call : ResetCall) (img : Image) (c : RunCtx) (s : State), s.resets.inReset = some call →
     s.store.image = some img → img.copy = some c →
     ∃ u, exec .restart s = .next (finish u) ∧
       (c.state ≠ .finishing → c.restarts + 1 < 3 →
         u.resets.record.resumed = true ∧ u.queue.grant = some c.unit ∧ u.writeDue = true ∧
         ∃ c' w, u.run.ctx = some c' ∧ c'.state = .suspended ∧ c'.susPower = true ∧ c'.susShutoff = true ∧
           c'.parked = true ∧ c'.posReached = false ∧ c'.powerSuspended = 0 ∧ c'.restarts = c.restarts + 1 ∧
           c'.restored = true ∧
           c'.slot = c.slot ∧ c'.elapsed = c.elapsed ∧ c'.dissolved = c.dissolved ∧
           c'.pendingCredit = c.pendingCredit ∧ c'.startCounter = 0 ∧ c'.startTime = c.startTime ∧
           c'.awaited = some w ∧ w.valve = c.unit.valve ∧ w.target = restPosition c.unit) ∧
       (c.state ≠ .finishing → 3 ≤ c.restarts + 1 →
         u.resets.record.resumed = false ∧ ∃ c' a, u.run.ctx = some c' ∧ c'.state = .finishing ∧
           c'.outcome = some (.aborted a) ∧ a.reason = .restartLimit ∧ a.slot = c.slot.getD 0) ∧
       (c.state = .finishing →
         u.resets.record.resumed = true ∧ u.queue.grant = some c.unit ∧
         u.run.copy = some c ∧
         ∃ c' w, u.run.ctx = some c' ∧ c'.state = .finishing ∧ c'.outcome = c.outcome ∧ c'.restarts = c.restarts ∧
           c'.startCounter = 0 ∧ c'.awaited = some w ∧ w.valve = c.unit.valve ∧ w.target = restPosition c.unit)) ∧
  (∀ (call : ResetCall) (img : Image) (s : State), s.resets.inReset = some call → s.store.image = some img →
     (∀ c, img.copy = some c → c.state = .finishing ∨ c.restarts + 1 < 3) →
     ∃ u, exec .restart s = .next (finish u) ∧
       let serving : Tank := if img.tankA.role = .inService then .a else .b
       let of := fun (t : Tank) => match t with
         | .a => img.tankA
         | .b => img.tankB
       let grade := urgencyGrade (of serving).remaining u.bed.reserve
       let kept := grade = (of serving).urgency
       servingTank u = serving ∧ u.bed.reserve = reserveOf u ∧
       tankRec serving u = { of serving with residue := 0, deviation := 0, urgency := grade } ∧
       tankRec serving.other u = { of serving.other with residue := 0, deviation := 0 } ∧
       u.bed.hardVolume = 0 ∧ u.bed.changeClass = none ∧
       (u.bed.changePending = true ↔ (of serving).remaining = 0 ∧ (of serving.other).role = .standby) ∧
       (u.bed.hardWater = true ↔ (of serving).remaining = 0 ∧ (of serving.other).role ≠ .standby) ∧
       u.brine =
         { model := img.saltModel, levelMass := none, comparison := img.comparison, bridge := img.bridge
           regens := img.regens, modelDrop := img.modelDrop, anchor := img.anchor, levelDrop := img.levelDrop
           height := 0, volume := img.brineVolume, age := img.brineAge, ring := img.ring, accum := img.accum
           stage := stageFound u
           reminder := if stageFound u = .ok then none else some (img.settings.reminderInterval * 3600)
           snooze := none } ∧
       u.run.softEntry = img.softEntry ∧ u.run.filterEntry = img.filterEntry ∧ u.run.table = img.table ∧
       u.queue.deferA = img.deferA ∧ u.queue.deferB = img.deferB ∧ u.queue.deferF = img.deferF ∧
       (kept → u.queue.entries = img.entries ∧ u.run.holds = img.holds) ∧
       ((∀ e ∈ img.entries, ∀ h ∈ img.holds, e.unit ≠ h.unit) → u.run.holds = img.holds) ∧
       u.run.holds.map (fun h => (h.unit, h.condition)) = img.holds.map (fun h => (h.unit, h.condition)) ∧
       u.queue.entries.length = img.entries.length ∧
       ((img.entries.map (·.unit)).Nodup → ∀ e ∈ img.entries, ∃ e' ∈ u.queue.entries, e' = { e with cls := e'.cls } ∧
         (e'.cls = e.cls ∨ (e.unit = serving.other.unit ∧ e'.cls = higherCls e.cls (meteredClass grade)))))

/-! ## Chapter 11 -/

/-- R182, R184, R185, R195, R196: a message of the catalogue reaches a part held in reset (log 8) or in DORMANT not at
all, and while a reply is being sent it is discarded as an overrun and nothing else; a kind outside the catalogue and a
length the catalogue does not give are refused, the former under its own kind. Every message is spelt by a frame of its
kind and its payload, from which the part reads it back, and the frame's bytes in HUNT do what the message does. Where a
frame is being collected, a message is the rest of that frame if it begins as the message's does, and its bytes join
that frame if it does not (log 29). -/
def Obligations.LinkTakesOrRefusesMessages : Prop :=
  (∀ (m : Instr) (s : State), isMessage m = true →
     (held s = true ∨ s.supply.regime = .dormant → exec m s = .next s) ∧
     (AtRest s → s.supply.regime ≠ .dormant → s.link.state = .answering → Unoccupied s →
       exec m s = .next { s with
         link.rx := .hunt, link.collected := [], link.overruns := min 65535 (s.link.overruns + 1) })) ∧
  (∀ (tag kind : Byte) (length : Nat) (s : State), Listens s →
     exec (.badKind tag kind) s = .next (withReply kind tag .badKind [] s) ∧
     exec (.badLength tag kind length) s = .next (withReply (kind + 0x80) tag .badLength [] s)) ∧
  (∀ m : Instr, isMessage m = true → m.wf = true →
     ∃ r, Link.requestOf m = some r ∧ r.payload.length ≤ 96 ∧ Link.readRequest r = m ∧
       ∀ s : State, s.link.rx = .hunt →
         exec (.frameDiscard (Link.frame r.kind r.tag r.payload)) s = exec m s) ∧
  (∀ (m : Instr) (r : Link.Request) (s : State), isMessage m = true → Link.requestOf m = some r → AtRest s →
     s.supply.regime ≠ .dormant → s.link.rx = .collecting →
     let frame := Link.frame r.kind r.tag r.payload
     (Config.syncByte :: s.link.collected <+: frame →
       exec m s = exec m { s with link.rx := .hunt, link.collected := [] }) ∧
     (¬ Config.syncByte :: s.link.collected <+: frame → exec m s = exec (.frameDiscard frame) s))

/-- R182, R183, R184, R196: the receiver takes its bytes one after another. In HUNT only the sync byte counts; in
COLLECTING each byte, C3h as any other, joins the frame (log 29), which is dropped at a gap, a bad length or a bad CRC
with a framing error, counted as an overrun only where it completes during a reply, and else taken as the request that
it spells; the reply's last byte makes the link LISTENING again. A gap in HUNT and FRAME_OVERRUN in LISTENING change
nothing (log 1). The CRC over the nine digits is 29B1h, a frame begins with the sync byte, its CRC stands high byte
first at its end, and the receiver accepts it; a frame with any other last two bytes it does not. -/
def Obligations.ReceiverJudgesFrames : Prop :=
  (∀ s : State, AtRest s → s.supply.regime ≠ .dormant →
     let hunting := { s with link.rx := .hunt, link.collected := [] }
     let framing := { hunting with link.framingErrors := min 65535 (s.link.framingErrors + 1) }
     let overran := { hunting with link.overruns := min 65535 (s.link.overruns + 1) }
     exec .syncByte s = exec (.frameDiscard [0xC3]) s ∧
     exec (.frameDiscard []) s = .next s ∧
     (∀ first rest t, exec (.frameDiscard first) s = .next t →
       exec (.frameDiscard (first ++ rest)) s = exec (.frameDiscard rest) t) ∧
     (s.link.rx = .hunt → ∀ b : Byte, exec (.frameDiscard [b]) s =
       .next (if b = 0xC3 then { s with link.rx := .collecting, link.collected := [] } else s)) ∧
     (s.link.rx = .collecting → ∀ b : Byte,
       let bytes := s.link.collected ++ [b]
       (Link.judge bytes = .notAFrame → exec (.frameDiscard [b]) s = .next { s with link.collected := bytes }) ∧
       (Link.judge bytes = .badLengthByte → exec (.frameDiscard [b]) s = .next framing) ∧
       (Link.judge bytes = .badCrc → s.link.state = .listening → exec (.frameDiscard [b]) s = .next framing) ∧
       (Link.judge bytes = .badCrc ∨ Link.judge bytes = .accepted → s.link.state = .answering →
         exec (.frameDiscard [b]) s = .next overran) ∧
       (Link.judge bytes = .accepted → s.link.state = .listening →
         exec (.frameDiscard [b]) s = exec (Link.readRequest (Link.requestIn bytes)) hunting)) ∧
     (s.link.rx = .hunt → ∀ n : Byte, 96 < n.toNat → exec (.frameDiscard [0xC3, n]) s = .next framing) ∧
     (s.link.rx = .hunt → ∀ bytes, Link.judge bytes = .badCrc → exec (.frameDiscard (0xC3 :: bytes)) s =
       .next (match s.link.state with
         | .listening => framing
         | .answering => overran)) ∧
     (s.link.rx = .collecting → exec .receiveGapTimeout s = .next framing) ∧
     (s.link.rx = .hunt → exec .receiveGapTimeout s = .next s) ∧
     (s.link.state = .answering → exec .frameOverrun s = .next overran) ∧
     (s.link.state = .listening → exec .frameOverrun s = .next s) ∧
     exec .replySent s = .next { s with link.state := .listening, link.reply := none }) ∧
  (Link.crc [0x31, 0x32, 0x33, 0x34, 0x35, 0x36, 0x37, 0x38, 0x39] = 0x29B1 ∧
   (∀ (kind tag : Byte) (payload : List Byte), payload.length ≤ 96 →
     ∃ body, Link.frame kind tag payload = 0xC3 :: body ∧ Link.judge body = .accepted ∧
       body.length = payload.length + 5 ∧ Link.requestIn body = ⟨kind, tag, payload⟩ ∧
       ∀ x y : Byte, body.drop (payload.length + 3) ≠ [x, y] →
         Link.judge (body.take (payload.length + 3) ++ [x, y]) = .badCrc))

/-- R185, R195, R196, and the record of each block: a message that only reads answers with its record and changes
nothing but the link; every record has a fixed length (logs 11, 49, 55), and with its status fits in a payload of 96
bytes. Each of the three places of the queue's record holds an entry and its blocker in nineteen bytes (log 11). -/
def Obligations.ReadingMessagesAnswerTheirRecords : Prop :=
  (∀ (tag : Byte) (s : State), Listens s →
     exec (.identify tag) s = .next (withReply 0x81 tag .ok (identityRecord s) s) ∧
     (∀ code record, statusSection code s = some record →
       exec (.getStatus tag code) s = .next (withReply 0x82 tag .ok record s)) ∧
     (∀ code, 5 < code.toNat → exec (.getStatus tag code) s = .next (withReply 0x82 tag .badValue [] s)) ∧
     exec (.getFlow tag) s = .next (withReply 0x83 tag .ok (flowRecord s) s) ∧
     exec (.getTanks tag) s = .next (withReply 0x84 tag .ok (tanksRecord s) s) ∧
     exec (.getSalt tag) s = .next (withReply 0x85 tag .ok (saltRecord s) s) ∧
     exec (.getFilter tag) s = .next (withReply 0x86 tag .ok (filterRecord s) s) ∧
     exec (.getQueue tag) s = .next (withReply 0x87 tag .ok (queueRecord s) s) ∧
     exec (.getRun tag) s = .next (withReply 0x88 tag .ok (runRecord s) s) ∧
     (∀ start, exec (.peekEvents tag start) s = .next (withReply 0x91 tag .ok (peekRecord start s) s)) ∧
     (∀ id p, paramOfId id = some p →
       exec (.getParam tag id) s = .next (withReply 0x99 tag .ok (id :: i32 (settingValue p s.settings)) s)) ∧
     (∀ id, paramOfId id = none → exec (.getParam tag id) s = .next (withReply 0x99 tag .badValue [] s)) ∧
     exec (.getQuietMap tag) s = .next (withReply 0x9C tag .ok (quietMapRecord s) s) ∧
     (∀ slot : Byte, 1 ≤ slot.toNat → slot.toNat ≤ 16 →
       exec (.getStep tag slot) s = .next (withReply 0xA1 tag .ok
         (encSlot (slotOf s.run.table slot.toNat) ++ u8 s.run.softEntry ++ u8 s.run.filterEntry) s)) ∧
     (∀ slot : Byte, slot.toNat < 1 ∨ 16 < slot.toNat →
       exec (.getStep tag slot) s = .next (withReply 0xA1 tag .badValue [] s)) ∧
     (∀ start, exec (.getPod tag 0 start) s = .next (withReply 0xC3 tag .ok (podTable start s) s)) ∧
     (∀ (address start : Byte) (p : Pod), 1 ≤ address.toNat → address.toNat ≤ 63 →
       podAt address.toNat s = some p →
       exec (.getPod tag address start) s = .next (withReply 0xC3 tag .ok (encPod p) s)) ∧
     (∀ address start : Byte, 1 ≤ address.toNat → address.toNat ≤ 63 → podAt address.toNat s = none →
       exec (.getPod tag address start) s = .next (withReply 0xC3 tag .notFound [] s)) ∧
     (∀ address start : Byte, 63 < address.toNat →
       exec (.getPod tag address start) s = .next (withReply 0xC3 tag .badValue [] s))) ∧
  (∀ s : State,
     (identityRecord s).length = 13 ∧ (flowRecord s).length = 56 ∧ (tanksRecord s).length = 73 ∧
       (saltRecord s).length = 93 ∧ (filterRecord s).length = 32 ∧ (queueRecord s).length = 81 ∧
       (quietMapRecord s).length = 23 ∧ (runRecord s).length = 88 ∧
       (clockSection s).length = 11 ∧ (channelSection s).length = 30 ∧ (valveSection s).length = 32 ∧
       (leakSection s).length = 71 ∧ (powerSection s).length = 15 ∧ (linkSection s).length = 10 ∧
       (∀ start, (podTable start s).length ≤ 95) ∧ (∀ start, (peekRecord start s).length ≤ 95) ∧
       ∀ k, k < 3 → ((queueRecord s).drop (19 * k)).take 19 = match s.queue.entries[k]? with
         | none => List.replicate 19 0
         | some e => (1 : Byte) :: encEntry e ++ match blockerOf e s with
           | none => [0, 0]
           | some b => [1, BitVec.ofNat 8 (blockerCode b)])

/-- R188, R189, R191, R192: an event of a kind already pending adds to its count, saturating at 255, and keeps its first
time and detail, one of another kind joins with count 1; GET_EVENTS answers with the entries from the front that fit, at
least one where any is pending, and removes exactly those; SET_ATTENTION_MASK stores the flags of kinds 01h to 1Eh and
answers with the mask as stored, a change is a write trigger, and ATTN follows it. -/
def Obligations.EventsAreCountedReadAndMasked : Prop :=
  (∀ (e : Event) (s : State), EventSetOrdered s →
     let t := raiseEvent e s
     EventSetOrdered t ∧ { t with link.events := s.link.events } = s ∧
     (∀ p ∈ s.link.events, eventCode p.event ≠ eventCode e → p ∈ t.link.events) ∧
     (∀ p ∈ s.link.events, eventCode p.event = eventCode e →
       { p with count := min 255 (p.count + 1) } ∈ t.link.events) ∧
     ((∀ p ∈ s.link.events, eventCode p.event ≠ eventCode e) → ⟨e, 1, s.time.counter⟩ ∈ t.link.events)) ∧
  (∀ (tag : Byte) (s : State), Listens s →
     ∃ t taken left, exec (.getEvents tag) s = .next t ∧ s.link.events = taken ++ left ∧ t.link.events = left ∧
       (s.link.events ≠ [] → taken ≠ []) ∧
       (encEvents (!left.isEmpty) taken).length ≤ 95 ∧
       (∀ p rest, left = p :: rest → 95 < (encEvents true (taken ++ [p])).length) ∧
       t.link.attn = attnLine t ∧ Sends 0x90 tag .ok (encEvents (!left.isEmpty) taken) t ∧
       { t with link := s.link } = s) ∧
  (∀ (tag : Byte) (mask : BitVec 32) (s : State), Listens s →
     ∃ t, exec (.setAttentionMask tag mask) s = .next t ∧
       (∀ k, k < 32 → t.link.mask.getLsbD k = (mask.getLsbD k && decide (k < 30))) ∧
       Sends 0x92 tag .ok (u32 t.link.mask.toNat) t ∧ (t.link.mask ≠ s.link.mask → Written s t) ∧
       (t.link.mask = s.link.mask → t.store = s.store) ∧ t.link.events = s.link.events ∧
       (t.link.attn = true ↔ s.supply.regime ≠ .dormant ∧
         ∃ p ∈ s.link.events, t.link.mask.getLsbD (eventCode p.event - 1) = true) ∧
       { t with link := s.link, store := s.store } = s)

/-- R186, R187: SET_PARAM stores the value, clamped into the range of its setting, and answers with the value stored;
the other settings stand; a value already held changes nothing; an id outside the table and a dormant action that names
nothing are refused. -/
def Obligations.SetParamClampsAndStores : Prop :=
  ∀ (tag id : Byte) (value : BitVec 32) (s : State), Listens s →
    (paramOfId id = none → exec (.setParam tag id value) s = .next (withReply 0x98 tag .badValue [] s)) ∧
    (∀ p, paramOfId id = some p → SettingsInRange s.settings →
      let stored := max (paramRange p).1 (min (paramRange p).2 value.toInt)
      (p = .dormantAction → value.toInt < 0 ∨ 1 < value.toInt →
        exec (.setParam tag id value) s = .next (withReply 0x98 tag .badValue [] s)) ∧
      (p ≠ .dormantAction ∨ (0 ≤ value.toInt ∧ value.toInt ≤ 1) →
        (settingValue p s.settings = stored → exec (.setParam tag id value) s = .next (withReply 0x98 tag
          (if stored = value.toInt then .ok else .clamped) (id :: i32 stored) s)) ∧
        ∃ u, Answers (.setParam tag id value) s 0x98 tag (if stored = value.toInt then .ok else .clamped)
            (fun _ => id :: i32 stored) u ∧
          settingValue p u.settings = stored ∧ (∀ q, q ≠ p → settingValue q u.settings = settingValue q s.settings) ∧
          (settingValue p s.settings ≠ stored → u.writeDue = true) ∧
          (settingValue p s.settings ≠ stored → p = .hardness ∨ p = .iron ∨ p = .ironWeight →
            u.bed.factor = 256 ∧
              u.bed.compensated = u.settings.hardness + u.settings.iron * u.settings.ironWeight / 100) ∧
          (settingValue p s.settings ≠ stored → p = .nominalCapacity → ∀ t,
            (tankRec t u).credit = min (tankRec t s).credit u.settings.nominalCapacity ∧
              (tankRec t u).remaining = min (tankRec t s).remaining (tankRec t u).credit) ∧
          (settingValue p s.settings ≠ stored → p = .depth ∨ p = .crossSection ∨ p = .bulkDensity →
            u.brine.model = min s.brine.model (massCapacity u.settings) ∧ u.brine.levelMass = none ∧
              u.brine.comparison = none ∧ u.brine.regens = 0 ∧ u.brine.anchor = none) ∧
          (settingValue p s.settings ≠ stored → p = .supplyK → u.meter = { s.meter with supplyResidue := 0 }) ∧
          (settingValue p s.settings ≠ stored → p = .drainK → u.meter = { s.meter with drainResidue := 0 })))

/-! ## What every step keeps -/

/-- R22: exactly one tank serves, in the live records and in both images, after every step. -/
def Obligations.EveryStepKeepsOneServingTank : Prop :=
  ∀ s t : State, OneTankServes s → step s = .next t → OneTankServes t

/-- R2, R15, R26, R28, R64, R134, R186: the clock, the window, every setting, C and the figures of each tank stay in
their ranges, and both tables keep their slots, in the live records and in both images, after every step. -/
def Obligations.EveryStepKeepsTheFiguresInRange : Prop :=
  ∀ s t : State, AllInRange s → step s = .next t → AllInRange t

/-- R87, R90, R95, R100: at most one entry for each unit and none for the unit of the run, and the grant names just the
unit of the run, after every step. -/
def Obligations.EveryStepKeepsQueueAndRunInAgreement : Prop :=
  ∀ s t : State, QueueAgreesWithRun s → step s = .next t → QueueAgreesWithRun t

/-- R118: a valve is MOVING only while its move holds the driver grant, after every step. -/
def Obligations.EveryStepKeepsTheDriverLaw : Prop :=
  ∀ s t : State, MovingHoldsDriver s → step s = .next t → MovingHoldsDriver t

/-- R142, R143, R148, R153: LEAK is in the close-reason set just while the leak state is ISOLATING or ISOLATED, after
every step. -/
def Obligations.EveryStepKeepsTheLeakLaw : Prop :=
  ∀ s t : State, LeakLaw s → step s = .next t → LeakLaw t

/-- R114, R152, R176, R188, R192: every step ends with nothing under way, no trigger left over, and ALARM and ATTN as
their conditions give, deasserted in reset; and the pending-event set keeps at most one entry of each kind, in ascending
kind code, with counts of 1 to 255. -/
def Obligations.EveryStepKeepsTheLinesAndEvents : Prop :=
  (∀ s t : State, s.signals = [] → LinesFollow s → step s = .next t → t.signals = [] ∧ LinesFollow t) ∧
  (∀ s t : State, EventSetOrdered s → step s = .next t → EventSetOrdered t)

/-- What every step keeps holds of the part right after its first restart, the model's State.reset (log 5). -/
def Obligations.ResetStateKeepsTheLaws : Prop :=
  OneTankServes State.reset ∧ AllInRange State.reset ∧ QueueAgreesWithRun State.reset ∧
    MovingHoldsDriver State.reset ∧ LeakLaw State.reset ∧ AtRest State.reset ∧ EventSetOrdered State.reset
end

