-- ==== Sys2Proof/Laws/State.lean ====
section
/-! SUPPORT. One lemma for each field and each update of the state, true by rfl, so that no later proof unfolds a record
update; and what reading back an updated record gives. -/

namespace Sys2Proof.Machine

variable (s : State)

/-! raiseEvent: an event touches the link alone. -/

@[simp] theorem raiseEvent_pending (e : Event) : (raiseEvent e s).pending = s.pending := rfl
@[simp] theorem raiseEvent_settings (e : Event) : (raiseEvent e s).settings = s.settings := rfl
@[simp] theorem raiseEvent_time (e : Event) : (raiseEvent e s).time = s.time := rfl
@[simp] theorem raiseEvent_meter (e : Event) : (raiseEvent e s).meter = s.meter := rfl
@[simp] theorem raiseEvent_analog (e : Event) : (raiseEvent e s).analog = s.analog := rfl
@[simp] theorem raiseEvent_bed (e : Event) : (raiseEvent e s).bed = s.bed := rfl
@[simp] theorem raiseEvent_brine (e : Event) : (raiseEvent e s).brine = s.brine := rfl
@[simp] theorem raiseEvent_run (e : Event) : (raiseEvent e s).run = s.run := rfl
@[simp] theorem raiseEvent_queue (e : Event) : (raiseEvent e s).queue = s.queue := rfl
@[simp] theorem raiseEvent_filter (e : Event) : (raiseEvent e s).filter = s.filter := rfl
@[simp] theorem raiseEvent_valves (e : Event) : (raiseEvent e s).valves = s.valves := rfl
@[simp] theorem raiseEvent_leak (e : Event) : (raiseEvent e s).leak = s.leak := rfl
@[simp] theorem raiseEvent_loop (e : Event) : (raiseEvent e s).loop = s.loop := rfl
@[simp] theorem raiseEvent_supply (e : Event) : (raiseEvent e s).supply = s.supply := rfl
@[simp] theorem raiseEvent_store (e : Event) : (raiseEvent e s).store = s.store := rfl
@[simp] theorem raiseEvent_resets (e : Event) : (raiseEvent e s).resets = s.resets := rfl
@[simp] theorem raiseEvent_alarm (e : Event) : (raiseEvent e s).alarm = s.alarm := rfl
@[simp] theorem raiseEvent_signals (e : Event) : (raiseEvent e s).signals = s.signals := rfl
@[simp] theorem raiseEvent_writeDue (e : Event) : (raiseEvent e s).writeDue = s.writeDue := rfl
@[simp] theorem raiseEvent_freeSeed (e : Event) : (raiseEvent e s).freeSeed = s.freeSeed := rfl

/-! writeTrigger: a write trigger touches its mark alone. -/

@[simp] theorem writeTrigger_pending : (writeTrigger s).pending = s.pending := rfl
@[simp] theorem writeTrigger_settings : (writeTrigger s).settings = s.settings := rfl
@[simp] theorem writeTrigger_time : (writeTrigger s).time = s.time := rfl
@[simp] theorem writeTrigger_meter : (writeTrigger s).meter = s.meter := rfl
@[simp] theorem writeTrigger_analog : (writeTrigger s).analog = s.analog := rfl
@[simp] theorem writeTrigger_bed : (writeTrigger s).bed = s.bed := rfl
@[simp] theorem writeTrigger_brine : (writeTrigger s).brine = s.brine := rfl
@[simp] theorem writeTrigger_run : (writeTrigger s).run = s.run := rfl
@[simp] theorem writeTrigger_queue : (writeTrigger s).queue = s.queue := rfl
@[simp] theorem writeTrigger_filter : (writeTrigger s).filter = s.filter := rfl
@[simp] theorem writeTrigger_valves : (writeTrigger s).valves = s.valves := rfl
@[simp] theorem writeTrigger_leak : (writeTrigger s).leak = s.leak := rfl
@[simp] theorem writeTrigger_loop : (writeTrigger s).loop = s.loop := rfl
@[simp] theorem writeTrigger_supply : (writeTrigger s).supply = s.supply := rfl
@[simp] theorem writeTrigger_store : (writeTrigger s).store = s.store := rfl
@[simp] theorem writeTrigger_resets : (writeTrigger s).resets = s.resets := rfl
@[simp] theorem writeTrigger_link : (writeTrigger s).link = s.link := rfl
@[simp] theorem writeTrigger_alarm : (writeTrigger s).alarm = s.alarm := rfl
@[simp] theorem writeTrigger_signals : (writeTrigger s).signals = s.signals := rfl
@[simp] theorem writeTrigger_freeSeed : (writeTrigger s).freeSeed = s.freeSeed := rfl

/-! push: a signal joins the signals alone. -/

@[simp] theorem push_pending (sig : Signal) : (push sig s).pending = s.pending := rfl
@[simp] theorem push_settings (sig : Signal) : (push sig s).settings = s.settings := rfl
@[simp] theorem push_time (sig : Signal) : (push sig s).time = s.time := rfl
@[simp] theorem push_meter (sig : Signal) : (push sig s).meter = s.meter := rfl
@[simp] theorem push_analog (sig : Signal) : (push sig s).analog = s.analog := rfl
@[simp] theorem push_bed (sig : Signal) : (push sig s).bed = s.bed := rfl
@[simp] theorem push_brine (sig : Signal) : (push sig s).brine = s.brine := rfl
@[simp] theorem push_run (sig : Signal) : (push sig s).run = s.run := rfl
@[simp] theorem push_queue (sig : Signal) : (push sig s).queue = s.queue := rfl
@[simp] theorem push_filter (sig : Signal) : (push sig s).filter = s.filter := rfl
@[simp] theorem push_valves (sig : Signal) : (push sig s).valves = s.valves := rfl
@[simp] theorem push_leak (sig : Signal) : (push sig s).leak = s.leak := rfl
@[simp] theorem push_loop (sig : Signal) : (push sig s).loop = s.loop := rfl
@[simp] theorem push_supply (sig : Signal) : (push sig s).supply = s.supply := rfl
@[simp] theorem push_store (sig : Signal) : (push sig s).store = s.store := rfl
@[simp] theorem push_resets (sig : Signal) : (push sig s).resets = s.resets := rfl
@[simp] theorem push_link (sig : Signal) : (push sig s).link = s.link := rfl
@[simp] theorem push_alarm (sig : Signal) : (push sig s).alarm = s.alarm := rfl
@[simp] theorem push_writeDue (sig : Signal) : (push sig s).writeDue = s.writeDue := rfl
@[simp] theorem push_freeSeed (sig : Signal) : (push sig s).freeSeed = s.freeSeed := rfl

/-! setTank: a tank's record stands in Bed Accounting. -/

@[simp] theorem setTank_pending (t : Tank) (r : TankRec) : (setTank t r s).pending = s.pending := by cases t <;> rfl
@[simp] theorem setTank_settings (t : Tank) (r : TankRec) : (setTank t r s).settings = s.settings := by cases t <;> rfl
@[simp] theorem setTank_time (t : Tank) (r : TankRec) : (setTank t r s).time = s.time := by cases t <;> rfl
@[simp] theorem setTank_meter (t : Tank) (r : TankRec) : (setTank t r s).meter = s.meter := by cases t <;> rfl
@[simp] theorem setTank_analog (t : Tank) (r : TankRec) : (setTank t r s).analog = s.analog := by cases t <;> rfl
@[simp] theorem setTank_brine (t : Tank) (r : TankRec) : (setTank t r s).brine = s.brine := by cases t <;> rfl
@[simp] theorem setTank_run (t : Tank) (r : TankRec) : (setTank t r s).run = s.run := by cases t <;> rfl
@[simp] theorem setTank_queue (t : Tank) (r : TankRec) : (setTank t r s).queue = s.queue := by cases t <;> rfl
@[simp] theorem setTank_filter (t : Tank) (r : TankRec) : (setTank t r s).filter = s.filter := by cases t <;> rfl
@[simp] theorem setTank_valves (t : Tank) (r : TankRec) : (setTank t r s).valves = s.valves := by cases t <;> rfl
@[simp] theorem setTank_leak (t : Tank) (r : TankRec) : (setTank t r s).leak = s.leak := by cases t <;> rfl
@[simp] theorem setTank_loop (t : Tank) (r : TankRec) : (setTank t r s).loop = s.loop := by cases t <;> rfl
@[simp] theorem setTank_supply (t : Tank) (r : TankRec) : (setTank t r s).supply = s.supply := by cases t <;> rfl
@[simp] theorem setTank_store (t : Tank) (r : TankRec) : (setTank t r s).store = s.store := by cases t <;> rfl
@[simp] theorem setTank_resets (t : Tank) (r : TankRec) : (setTank t r s).resets = s.resets := by cases t <;> rfl
@[simp] theorem setTank_link (t : Tank) (r : TankRec) : (setTank t r s).link = s.link := by cases t <;> rfl
@[simp] theorem setTank_alarm (t : Tank) (r : TankRec) : (setTank t r s).alarm = s.alarm := by cases t <;> rfl
@[simp] theorem setTank_signals (t : Tank) (r : TankRec) : (setTank t r s).signals = s.signals := by cases t <;> rfl
@[simp] theorem setTank_writeDue (t : Tank) (r : TankRec) : (setTank t r s).writeDue = s.writeDue := by cases t <;> rfl
@[simp] theorem setTank_freeSeed (t : Tank) (r : TankRec) : (setTank t r s).freeSeed = s.freeSeed := by cases t <;> rfl

/-! setChannel: a channel's record stands in the Analog Scan. -/

@[simp] theorem setChannel_pending (c : Channel) (r : ChannelRec) : (setChannel c r s).pending = s.pending := by cases c <;> rfl
@[simp] theorem setChannel_settings (c : Channel) (r : ChannelRec) : (setChannel c r s).settings = s.settings := by cases c <;> rfl
@[simp] theorem setChannel_time (c : Channel) (r : ChannelRec) : (setChannel c r s).time = s.time := by cases c <;> rfl
@[simp] theorem setChannel_meter (c : Channel) (r : ChannelRec) : (setChannel c r s).meter = s.meter := by cases c <;> rfl
@[simp] theorem setChannel_bed (c : Channel) (r : ChannelRec) : (setChannel c r s).bed = s.bed := by cases c <;> rfl
@[simp] theorem setChannel_brine (c : Channel) (r : ChannelRec) : (setChannel c r s).brine = s.brine := by cases c <;> rfl
@[simp] theorem setChannel_run (c : Channel) (r : ChannelRec) : (setChannel c r s).run = s.run := by cases c <;> rfl
@[simp] theorem setChannel_queue (c : Channel) (r : ChannelRec) : (setChannel c r s).queue = s.queue := by cases c <;> rfl
@[simp] theorem setChannel_filter (c : Channel) (r : ChannelRec) : (setChannel c r s).filter = s.filter := by cases c <;> rfl
@[simp] theorem setChannel_valves (c : Channel) (r : ChannelRec) : (setChannel c r s).valves = s.valves := by cases c <;> rfl
@[simp] theorem setChannel_leak (c : Channel) (r : ChannelRec) : (setChannel c r s).leak = s.leak := by cases c <;> rfl
@[simp] theorem setChannel_loop (c : Channel) (r : ChannelRec) : (setChannel c r s).loop = s.loop := by cases c <;> rfl
@[simp] theorem setChannel_supply (c : Channel) (r : ChannelRec) : (setChannel c r s).supply = s.supply := by cases c <;> rfl
@[simp] theorem setChannel_store (c : Channel) (r : ChannelRec) : (setChannel c r s).store = s.store := by cases c <;> rfl
@[simp] theorem setChannel_resets (c : Channel) (r : ChannelRec) : (setChannel c r s).resets = s.resets := by cases c <;> rfl
@[simp] theorem setChannel_link (c : Channel) (r : ChannelRec) : (setChannel c r s).link = s.link := by cases c <;> rfl
@[simp] theorem setChannel_alarm (c : Channel) (r : ChannelRec) : (setChannel c r s).alarm = s.alarm := by cases c <;> rfl
@[simp] theorem setChannel_signals (c : Channel) (r : ChannelRec) : (setChannel c r s).signals = s.signals := by cases c <;> rfl
@[simp] theorem setChannel_writeDue (c : Channel) (r : ChannelRec) : (setChannel c r s).writeDue = s.writeDue := by cases c <;> rfl
@[simp] theorem setChannel_freeSeed (c : Channel) (r : ChannelRec) : (setChannel c r s).freeSeed = s.freeSeed := by cases c <;> rfl

/-! setValve: a valve's record stands in the Valve Drive. -/

@[simp] theorem setValve_pending (v : Valve) (r : ValveRec) : (setValve v r s).pending = s.pending := by cases v <;> rfl
@[simp] theorem setValve_settings (v : Valve) (r : ValveRec) : (setValve v r s).settings = s.settings := by cases v <;> rfl
@[simp] theorem setValve_time (v : Valve) (r : ValveRec) : (setValve v r s).time = s.time := by cases v <;> rfl
@[simp] theorem setValve_meter (v : Valve) (r : ValveRec) : (setValve v r s).meter = s.meter := by cases v <;> rfl
@[simp] theorem setValve_analog (v : Valve) (r : ValveRec) : (setValve v r s).analog = s.analog := by cases v <;> rfl
@[simp] theorem setValve_bed (v : Valve) (r : ValveRec) : (setValve v r s).bed = s.bed := by cases v <;> rfl
@[simp] theorem setValve_brine (v : Valve) (r : ValveRec) : (setValve v r s).brine = s.brine := by cases v <;> rfl
@[simp] theorem setValve_run (v : Valve) (r : ValveRec) : (setValve v r s).run = s.run := by cases v <;> rfl
@[simp] theorem setValve_queue (v : Valve) (r : ValveRec) : (setValve v r s).queue = s.queue := by cases v <;> rfl
@[simp] theorem setValve_filter (v : Valve) (r : ValveRec) : (setValve v r s).filter = s.filter := by cases v <;> rfl
@[simp] theorem setValve_leak (v : Valve) (r : ValveRec) : (setValve v r s).leak = s.leak := by cases v <;> rfl
@[simp] theorem setValve_loop (v : Valve) (r : ValveRec) : (setValve v r s).loop = s.loop := by cases v <;> rfl
@[simp] theorem setValve_supply (v : Valve) (r : ValveRec) : (setValve v r s).supply = s.supply := by cases v <;> rfl
@[simp] theorem setValve_store (v : Valve) (r : ValveRec) : (setValve v r s).store = s.store := by cases v <;> rfl
@[simp] theorem setValve_resets (v : Valve) (r : ValveRec) : (setValve v r s).resets = s.resets := by cases v <;> rfl
@[simp] theorem setValve_link (v : Valve) (r : ValveRec) : (setValve v r s).link = s.link := by cases v <;> rfl
@[simp] theorem setValve_alarm (v : Valve) (r : ValveRec) : (setValve v r s).alarm = s.alarm := by cases v <;> rfl
@[simp] theorem setValve_signals (v : Valve) (r : ValveRec) : (setValve v r s).signals = s.signals := by cases v <;> rfl
@[simp] theorem setValve_writeDue (v : Valve) (r : ValveRec) : (setValve v r s).writeDue = s.writeDue := by cases v <;> rfl
@[simp] theorem setValve_freeSeed (v : Valve) (r : ValveRec) : (setValve v r s).freeSeed = s.freeSeed := by cases v <;> rfl

/-! setDeferral: a unit deferral stands in the Drain Queue. -/

@[simp] theorem setDeferral_pending (u : HeadUnit) (d : Option Nat) : (setDeferral u d s).pending = s.pending := by cases u <;> rfl
@[simp] theorem setDeferral_settings (u : HeadUnit) (d : Option Nat) : (setDeferral u d s).settings = s.settings := by cases u <;> rfl
@[simp] theorem setDeferral_time (u : HeadUnit) (d : Option Nat) : (setDeferral u d s).time = s.time := by cases u <;> rfl
@[simp] theorem setDeferral_meter (u : HeadUnit) (d : Option Nat) : (setDeferral u d s).meter = s.meter := by cases u <;> rfl
@[simp] theorem setDeferral_analog (u : HeadUnit) (d : Option Nat) : (setDeferral u d s).analog = s.analog := by cases u <;> rfl
@[simp] theorem setDeferral_bed (u : HeadUnit) (d : Option Nat) : (setDeferral u d s).bed = s.bed := by cases u <;> rfl
@[simp] theorem setDeferral_brine (u : HeadUnit) (d : Option Nat) : (setDeferral u d s).brine = s.brine := by cases u <;> rfl
@[simp] theorem setDeferral_run (u : HeadUnit) (d : Option Nat) : (setDeferral u d s).run = s.run := by cases u <;> rfl
@[simp] theorem setDeferral_filter (u : HeadUnit) (d : Option Nat) : (setDeferral u d s).filter = s.filter := by cases u <;> rfl
@[simp] theorem setDeferral_valves (u : HeadUnit) (d : Option Nat) : (setDeferral u d s).valves = s.valves := by cases u <;> rfl
@[simp] theorem setDeferral_leak (u : HeadUnit) (d : Option Nat) : (setDeferral u d s).leak = s.leak := by cases u <;> rfl
@[simp] theorem setDeferral_loop (u : HeadUnit) (d : Option Nat) : (setDeferral u d s).loop = s.loop := by cases u <;> rfl
@[simp] theorem setDeferral_supply (u : HeadUnit) (d : Option Nat) : (setDeferral u d s).supply = s.supply := by cases u <;> rfl
@[simp] theorem setDeferral_store (u : HeadUnit) (d : Option Nat) : (setDeferral u d s).store = s.store := by cases u <;> rfl
@[simp] theorem setDeferral_resets (u : HeadUnit) (d : Option Nat) : (setDeferral u d s).resets = s.resets := by cases u <;> rfl
@[simp] theorem setDeferral_link (u : HeadUnit) (d : Option Nat) : (setDeferral u d s).link = s.link := by cases u <;> rfl
@[simp] theorem setDeferral_alarm (u : HeadUnit) (d : Option Nat) : (setDeferral u d s).alarm = s.alarm := by cases u <;> rfl
@[simp] theorem setDeferral_signals (u : HeadUnit) (d : Option Nat) : (setDeferral u d s).signals = s.signals := by cases u <;> rfl
@[simp] theorem setDeferral_writeDue (u : HeadUnit) (d : Option Nat) : (setDeferral u d s).writeDue = s.writeDue := by cases u <;> rfl
@[simp] theorem setDeferral_freeSeed (u : HeadUnit) (d : Option Nat) : (setDeferral u d s).freeSeed = s.freeSeed := by cases u <;> rfl

/-! setSense: a sense stands in the Valve Drive. -/

@[simp] theorem setSense_pending (v : Valve) (r : Reading) : (setSense v r s).pending = s.pending := by cases v <;> rfl
@[simp] theorem setSense_settings (v : Valve) (r : Reading) : (setSense v r s).settings = s.settings := by cases v <;> rfl
@[simp] theorem setSense_time (v : Valve) (r : Reading) : (setSense v r s).time = s.time := by cases v <;> rfl
@[simp] theorem setSense_meter (v : Valve) (r : Reading) : (setSense v r s).meter = s.meter := by cases v <;> rfl
@[simp] theorem setSense_analog (v : Valve) (r : Reading) : (setSense v r s).analog = s.analog := by cases v <;> rfl
@[simp] theorem setSense_bed (v : Valve) (r : Reading) : (setSense v r s).bed = s.bed := by cases v <;> rfl
@[simp] theorem setSense_brine (v : Valve) (r : Reading) : (setSense v r s).brine = s.brine := by cases v <;> rfl
@[simp] theorem setSense_run (v : Valve) (r : Reading) : (setSense v r s).run = s.run := by cases v <;> rfl
@[simp] theorem setSense_queue (v : Valve) (r : Reading) : (setSense v r s).queue = s.queue := by cases v <;> rfl
@[simp] theorem setSense_filter (v : Valve) (r : Reading) : (setSense v r s).filter = s.filter := by cases v <;> rfl
@[simp] theorem setSense_leak (v : Valve) (r : Reading) : (setSense v r s).leak = s.leak := by cases v <;> rfl
@[simp] theorem setSense_loop (v : Valve) (r : Reading) : (setSense v r s).loop = s.loop := by cases v <;> rfl
@[simp] theorem setSense_supply (v : Valve) (r : Reading) : (setSense v r s).supply = s.supply := by cases v <;> rfl
@[simp] theorem setSense_store (v : Valve) (r : Reading) : (setSense v r s).store = s.store := by cases v <;> rfl
@[simp] theorem setSense_resets (v : Valve) (r : Reading) : (setSense v r s).resets = s.resets := by cases v <;> rfl
@[simp] theorem setSense_link (v : Valve) (r : Reading) : (setSense v r s).link = s.link := by cases v <;> rfl
@[simp] theorem setSense_alarm (v : Valve) (r : Reading) : (setSense v r s).alarm = s.alarm := by cases v <;> rfl
@[simp] theorem setSense_signals (v : Valve) (r : Reading) : (setSense v r s).signals = s.signals := by cases v <;> rfl
@[simp] theorem setSense_writeDue (v : Valve) (r : Reading) : (setSense v r s).writeDue = s.writeDue := by cases v <;> rfl
@[simp] theorem setSense_freeSeed (v : Valve) (r : Reading) : (setSense v r s).freeSeed = s.freeSeed := by cases v <;> rfl

/-! setWaiting: a pending request stands in the Valve Drive. -/

@[simp] theorem setWaiting_pending (v : Valve) (r : Option MoveReq) : (setWaiting v r s).pending = s.pending := by cases v <;> rfl
@[simp] theorem setWaiting_settings (v : Valve) (r : Option MoveReq) : (setWaiting v r s).settings = s.settings := by cases v <;> rfl
@[simp] theorem setWaiting_time (v : Valve) (r : Option MoveReq) : (setWaiting v r s).time = s.time := by cases v <;> rfl
@[simp] theorem setWaiting_meter (v : Valve) (r : Option MoveReq) : (setWaiting v r s).meter = s.meter := by cases v <;> rfl
@[simp] theorem setWaiting_analog (v : Valve) (r : Option MoveReq) : (setWaiting v r s).analog = s.analog := by cases v <;> rfl
@[simp] theorem setWaiting_bed (v : Valve) (r : Option MoveReq) : (setWaiting v r s).bed = s.bed := by cases v <;> rfl
@[simp] theorem setWaiting_brine (v : Valve) (r : Option MoveReq) : (setWaiting v r s).brine = s.brine := by cases v <;> rfl
@[simp] theorem setWaiting_run (v : Valve) (r : Option MoveReq) : (setWaiting v r s).run = s.run := by cases v <;> rfl
@[simp] theorem setWaiting_queue (v : Valve) (r : Option MoveReq) : (setWaiting v r s).queue = s.queue := by cases v <;> rfl
@[simp] theorem setWaiting_filter (v : Valve) (r : Option MoveReq) : (setWaiting v r s).filter = s.filter := by cases v <;> rfl
@[simp] theorem setWaiting_leak (v : Valve) (r : Option MoveReq) : (setWaiting v r s).leak = s.leak := by cases v <;> rfl
@[simp] theorem setWaiting_loop (v : Valve) (r : Option MoveReq) : (setWaiting v r s).loop = s.loop := by cases v <;> rfl
@[simp] theorem setWaiting_supply (v : Valve) (r : Option MoveReq) : (setWaiting v r s).supply = s.supply := by cases v <;> rfl
@[simp] theorem setWaiting_store (v : Valve) (r : Option MoveReq) : (setWaiting v r s).store = s.store := by cases v <;> rfl
@[simp] theorem setWaiting_resets (v : Valve) (r : Option MoveReq) : (setWaiting v r s).resets = s.resets := by cases v <;> rfl
@[simp] theorem setWaiting_link (v : Valve) (r : Option MoveReq) : (setWaiting v r s).link = s.link := by cases v <;> rfl
@[simp] theorem setWaiting_alarm (v : Valve) (r : Option MoveReq) : (setWaiting v r s).alarm = s.alarm := by cases v <;> rfl
@[simp] theorem setWaiting_signals (v : Valve) (r : Option MoveReq) : (setWaiting v r s).signals = s.signals := by cases v <;> rfl
@[simp] theorem setWaiting_writeDue (v : Valve) (r : Option MoveReq) : (setWaiting v r s).writeDue = s.writeDue := by cases v <;> rfl
@[simp] theorem setWaiting_freeSeed (v : Valve) (r : Option MoveReq) : (setWaiting v r s).freeSeed = s.freeSeed := by cases v <;> rfl

/-! setGrant: the driver grant stands in the Valve Drive. -/

@[simp] theorem setGrant_pending (g : Option Grant) : (setGrant g s).pending = s.pending := rfl
@[simp] theorem setGrant_settings (g : Option Grant) : (setGrant g s).settings = s.settings := rfl
@[simp] theorem setGrant_time (g : Option Grant) : (setGrant g s).time = s.time := rfl
@[simp] theorem setGrant_meter (g : Option Grant) : (setGrant g s).meter = s.meter := rfl
@[simp] theorem setGrant_analog (g : Option Grant) : (setGrant g s).analog = s.analog := rfl
@[simp] theorem setGrant_bed (g : Option Grant) : (setGrant g s).bed = s.bed := rfl
@[simp] theorem setGrant_brine (g : Option Grant) : (setGrant g s).brine = s.brine := rfl
@[simp] theorem setGrant_run (g : Option Grant) : (setGrant g s).run = s.run := rfl
@[simp] theorem setGrant_queue (g : Option Grant) : (setGrant g s).queue = s.queue := rfl
@[simp] theorem setGrant_filter (g : Option Grant) : (setGrant g s).filter = s.filter := rfl
@[simp] theorem setGrant_leak (g : Option Grant) : (setGrant g s).leak = s.leak := rfl
@[simp] theorem setGrant_loop (g : Option Grant) : (setGrant g s).loop = s.loop := rfl
@[simp] theorem setGrant_supply (g : Option Grant) : (setGrant g s).supply = s.supply := rfl
@[simp] theorem setGrant_store (g : Option Grant) : (setGrant g s).store = s.store := rfl
@[simp] theorem setGrant_resets (g : Option Grant) : (setGrant g s).resets = s.resets := rfl
@[simp] theorem setGrant_link (g : Option Grant) : (setGrant g s).link = s.link := rfl
@[simp] theorem setGrant_alarm (g : Option Grant) : (setGrant g s).alarm = s.alarm := rfl
@[simp] theorem setGrant_signals (g : Option Grant) : (setGrant g s).signals = s.signals := rfl
@[simp] theorem setGrant_writeDue (g : Option Grant) : (setGrant g s).writeDue = s.writeDue := rfl
@[simp] theorem setGrant_freeSeed (g : Option Grant) : (setGrant g s).freeSeed = s.freeSeed := rfl

/-! setCtx: the run context stands in the Run Controller. -/

@[simp] theorem setCtx_pending (c : RunCtx) : (setCtx c s).pending = s.pending := rfl
@[simp] theorem setCtx_settings (c : RunCtx) : (setCtx c s).settings = s.settings := rfl
@[simp] theorem setCtx_time (c : RunCtx) : (setCtx c s).time = s.time := rfl
@[simp] theorem setCtx_meter (c : RunCtx) : (setCtx c s).meter = s.meter := rfl
@[simp] theorem setCtx_analog (c : RunCtx) : (setCtx c s).analog = s.analog := rfl
@[simp] theorem setCtx_bed (c : RunCtx) : (setCtx c s).bed = s.bed := rfl
@[simp] theorem setCtx_brine (c : RunCtx) : (setCtx c s).brine = s.brine := rfl
@[simp] theorem setCtx_queue (c : RunCtx) : (setCtx c s).queue = s.queue := rfl
@[simp] theorem setCtx_filter (c : RunCtx) : (setCtx c s).filter = s.filter := rfl
@[simp] theorem setCtx_valves (c : RunCtx) : (setCtx c s).valves = s.valves := rfl
@[simp] theorem setCtx_leak (c : RunCtx) : (setCtx c s).leak = s.leak := rfl
@[simp] theorem setCtx_loop (c : RunCtx) : (setCtx c s).loop = s.loop := rfl
@[simp] theorem setCtx_supply (c : RunCtx) : (setCtx c s).supply = s.supply := rfl
@[simp] theorem setCtx_store (c : RunCtx) : (setCtx c s).store = s.store := rfl
@[simp] theorem setCtx_resets (c : RunCtx) : (setCtx c s).resets = s.resets := rfl
@[simp] theorem setCtx_link (c : RunCtx) : (setCtx c s).link = s.link := rfl
@[simp] theorem setCtx_alarm (c : RunCtx) : (setCtx c s).alarm = s.alarm := rfl
@[simp] theorem setCtx_signals (c : RunCtx) : (setCtx c s).signals = s.signals := rfl
@[simp] theorem setCtx_writeDue (c : RunCtx) : (setCtx c s).writeDue = s.writeDue := rfl
@[simp] theorem setCtx_freeSeed (c : RunCtx) : (setCtx c s).freeSeed = s.freeSeed := rfl

/-! setPod: a pod record stands in the Loop Master. -/

@[simp] theorem setPod_pending (p : Pod) : (setPod p s).pending = s.pending := rfl
@[simp] theorem setPod_settings (p : Pod) : (setPod p s).settings = s.settings := rfl
@[simp] theorem setPod_time (p : Pod) : (setPod p s).time = s.time := rfl
@[simp] theorem setPod_meter (p : Pod) : (setPod p s).meter = s.meter := rfl
@[simp] theorem setPod_analog (p : Pod) : (setPod p s).analog = s.analog := rfl
@[simp] theorem setPod_bed (p : Pod) : (setPod p s).bed = s.bed := rfl
@[simp] theorem setPod_brine (p : Pod) : (setPod p s).brine = s.brine := rfl
@[simp] theorem setPod_run (p : Pod) : (setPod p s).run = s.run := rfl
@[simp] theorem setPod_queue (p : Pod) : (setPod p s).queue = s.queue := rfl
@[simp] theorem setPod_filter (p : Pod) : (setPod p s).filter = s.filter := rfl
@[simp] theorem setPod_valves (p : Pod) : (setPod p s).valves = s.valves := rfl
@[simp] theorem setPod_leak (p : Pod) : (setPod p s).leak = s.leak := rfl
@[simp] theorem setPod_supply (p : Pod) : (setPod p s).supply = s.supply := rfl
@[simp] theorem setPod_store (p : Pod) : (setPod p s).store = s.store := rfl
@[simp] theorem setPod_resets (p : Pod) : (setPod p s).resets = s.resets := rfl
@[simp] theorem setPod_link (p : Pod) : (setPod p s).link = s.link := rfl
@[simp] theorem setPod_alarm (p : Pod) : (setPod p s).alarm = s.alarm := rfl
@[simp] theorem setPod_signals (p : Pod) : (setPod p s).signals = s.signals := rfl
@[simp] theorem setPod_writeDue (p : Pod) : (setPod p s).writeDue = s.writeDue := rfl
@[simp] theorem setPod_freeSeed (p : Pod) : (setPod p s).freeSeed = s.freeSeed := rfl

/-! setFlight: the transaction in flight stands in the Loop Master. -/

@[simp] theorem setFlight_pending (x : Option Transaction) : (setFlight x s).pending = s.pending := rfl
@[simp] theorem setFlight_settings (x : Option Transaction) : (setFlight x s).settings = s.settings := rfl
@[simp] theorem setFlight_time (x : Option Transaction) : (setFlight x s).time = s.time := rfl
@[simp] theorem setFlight_meter (x : Option Transaction) : (setFlight x s).meter = s.meter := rfl
@[simp] theorem setFlight_analog (x : Option Transaction) : (setFlight x s).analog = s.analog := rfl
@[simp] theorem setFlight_bed (x : Option Transaction) : (setFlight x s).bed = s.bed := rfl
@[simp] theorem setFlight_brine (x : Option Transaction) : (setFlight x s).brine = s.brine := rfl
@[simp] theorem setFlight_run (x : Option Transaction) : (setFlight x s).run = s.run := rfl
@[simp] theorem setFlight_queue (x : Option Transaction) : (setFlight x s).queue = s.queue := rfl
@[simp] theorem setFlight_filter (x : Option Transaction) : (setFlight x s).filter = s.filter := rfl
@[simp] theorem setFlight_valves (x : Option Transaction) : (setFlight x s).valves = s.valves := rfl
@[simp] theorem setFlight_leak (x : Option Transaction) : (setFlight x s).leak = s.leak := rfl
@[simp] theorem setFlight_supply (x : Option Transaction) : (setFlight x s).supply = s.supply := rfl
@[simp] theorem setFlight_store (x : Option Transaction) : (setFlight x s).store = s.store := rfl
@[simp] theorem setFlight_resets (x : Option Transaction) : (setFlight x s).resets = s.resets := rfl
@[simp] theorem setFlight_link (x : Option Transaction) : (setFlight x s).link = s.link := rfl
@[simp] theorem setFlight_alarm (x : Option Transaction) : (setFlight x s).alarm = s.alarm := rfl
@[simp] theorem setFlight_signals (x : Option Transaction) : (setFlight x s).signals = s.signals := rfl
@[simp] theorem setFlight_writeDue (x : Option Transaction) : (setFlight x s).writeDue = s.writeDue := rfl
@[simp] theorem setFlight_freeSeed (x : Option Transaction) : (setFlight x s).freeSeed = s.freeSeed := rfl

/-! storeParam: a setting stands in the settings. -/

@[simp] theorem storeParam_pending (p : Param) (v : Int) : (storeParam p v s).pending = s.pending := rfl
@[simp] theorem storeParam_time (p : Param) (v : Int) : (storeParam p v s).time = s.time := rfl
@[simp] theorem storeParam_meter (p : Param) (v : Int) : (storeParam p v s).meter = s.meter := rfl
@[simp] theorem storeParam_analog (p : Param) (v : Int) : (storeParam p v s).analog = s.analog := rfl
@[simp] theorem storeParam_bed (p : Param) (v : Int) : (storeParam p v s).bed = s.bed := rfl
@[simp] theorem storeParam_brine (p : Param) (v : Int) : (storeParam p v s).brine = s.brine := rfl
@[simp] theorem storeParam_run (p : Param) (v : Int) : (storeParam p v s).run = s.run := rfl
@[simp] theorem storeParam_queue (p : Param) (v : Int) : (storeParam p v s).queue = s.queue := rfl
@[simp] theorem storeParam_filter (p : Param) (v : Int) : (storeParam p v s).filter = s.filter := rfl
@[simp] theorem storeParam_valves (p : Param) (v : Int) : (storeParam p v s).valves = s.valves := rfl
@[simp] theorem storeParam_leak (p : Param) (v : Int) : (storeParam p v s).leak = s.leak := rfl
@[simp] theorem storeParam_loop (p : Param) (v : Int) : (storeParam p v s).loop = s.loop := rfl
@[simp] theorem storeParam_supply (p : Param) (v : Int) : (storeParam p v s).supply = s.supply := rfl
@[simp] theorem storeParam_store (p : Param) (v : Int) : (storeParam p v s).store = s.store := rfl
@[simp] theorem storeParam_resets (p : Param) (v : Int) : (storeParam p v s).resets = s.resets := rfl
@[simp] theorem storeParam_link (p : Param) (v : Int) : (storeParam p v s).link = s.link := rfl
@[simp] theorem storeParam_alarm (p : Param) (v : Int) : (storeParam p v s).alarm = s.alarm := rfl
@[simp] theorem storeParam_signals (p : Param) (v : Int) : (storeParam p v s).signals = s.signals := rfl
@[simp] theorem storeParam_writeDue (p : Param) (v : Int) : (storeParam p v s).writeDue = s.writeDue := rfl
@[simp] theorem storeParam_freeSeed (p : Param) (v : Int) : (storeParam p v s).freeSeed = s.freeSeed := rfl

/-! frameTaken: a frame taken touches the link alone. -/

@[simp] theorem frameTaken_pending : (frameTaken s).pending = s.pending := rfl
@[simp] theorem frameTaken_settings : (frameTaken s).settings = s.settings := rfl
@[simp] theorem frameTaken_time : (frameTaken s).time = s.time := rfl
@[simp] theorem frameTaken_meter : (frameTaken s).meter = s.meter := rfl
@[simp] theorem frameTaken_analog : (frameTaken s).analog = s.analog := rfl
@[simp] theorem frameTaken_bed : (frameTaken s).bed = s.bed := rfl
@[simp] theorem frameTaken_brine : (frameTaken s).brine = s.brine := rfl
@[simp] theorem frameTaken_run : (frameTaken s).run = s.run := rfl
@[simp] theorem frameTaken_queue : (frameTaken s).queue = s.queue := rfl
@[simp] theorem frameTaken_filter : (frameTaken s).filter = s.filter := rfl
@[simp] theorem frameTaken_valves : (frameTaken s).valves = s.valves := rfl
@[simp] theorem frameTaken_leak : (frameTaken s).leak = s.leak := rfl
@[simp] theorem frameTaken_loop : (frameTaken s).loop = s.loop := rfl
@[simp] theorem frameTaken_supply : (frameTaken s).supply = s.supply := rfl
@[simp] theorem frameTaken_store : (frameTaken s).store = s.store := rfl
@[simp] theorem frameTaken_resets : (frameTaken s).resets = s.resets := rfl
@[simp] theorem frameTaken_alarm : (frameTaken s).alarm = s.alarm := rfl
@[simp] theorem frameTaken_signals : (frameTaken s).signals = s.signals := rfl
@[simp] theorem frameTaken_writeDue : (frameTaken s).writeDue = s.writeDue := rfl
@[simp] theorem frameTaken_freeSeed : (frameTaken s).freeSeed = s.freeSeed := rfl

/-! beginReply: a reply touches the link alone. -/

@[simp] theorem beginReply_pending (frame : List Byte) : (beginReply frame s).pending = s.pending := rfl
@[simp] theorem beginReply_settings (frame : List Byte) : (beginReply frame s).settings = s.settings := rfl
@[simp] theorem beginReply_time (frame : List Byte) : (beginReply frame s).time = s.time := rfl
@[simp] theorem beginReply_meter (frame : List Byte) : (beginReply frame s).meter = s.meter := rfl
@[simp] theorem beginReply_analog (frame : List Byte) : (beginReply frame s).analog = s.analog := rfl
@[simp] theorem beginReply_bed (frame : List Byte) : (beginReply frame s).bed = s.bed := rfl
@[simp] theorem beginReply_brine (frame : List Byte) : (beginReply frame s).brine = s.brine := rfl
@[simp] theorem beginReply_run (frame : List Byte) : (beginReply frame s).run = s.run := rfl
@[simp] theorem beginReply_queue (frame : List Byte) : (beginReply frame s).queue = s.queue := rfl
@[simp] theorem beginReply_filter (frame : List Byte) : (beginReply frame s).filter = s.filter := rfl
@[simp] theorem beginReply_valves (frame : List Byte) : (beginReply frame s).valves = s.valves := rfl
@[simp] theorem beginReply_leak (frame : List Byte) : (beginReply frame s).leak = s.leak := rfl
@[simp] theorem beginReply_loop (frame : List Byte) : (beginReply frame s).loop = s.loop := rfl
@[simp] theorem beginReply_supply (frame : List Byte) : (beginReply frame s).supply = s.supply := rfl
@[simp] theorem beginReply_store (frame : List Byte) : (beginReply frame s).store = s.store := rfl
@[simp] theorem beginReply_resets (frame : List Byte) : (beginReply frame s).resets = s.resets := rfl
@[simp] theorem beginReply_alarm (frame : List Byte) : (beginReply frame s).alarm = s.alarm := rfl
@[simp] theorem beginReply_signals (frame : List Byte) : (beginReply frame s).signals = s.signals := rfl
@[simp] theorem beginReply_writeDue (frame : List Byte) : (beginReply frame s).writeDue = s.writeDue := rfl
@[simp] theorem beginReply_freeSeed (frame : List Byte) : (beginReply frame s).freeSeed = s.freeSeed := rfl

/-! refreshLines: the lines are ALARM and ATTN. -/

@[simp] theorem refreshLines_pending : (refreshLines s).pending = s.pending := rfl
@[simp] theorem refreshLines_settings : (refreshLines s).settings = s.settings := rfl
@[simp] theorem refreshLines_time : (refreshLines s).time = s.time := rfl
@[simp] theorem refreshLines_meter : (refreshLines s).meter = s.meter := rfl
@[simp] theorem refreshLines_analog : (refreshLines s).analog = s.analog := rfl
@[simp] theorem refreshLines_bed : (refreshLines s).bed = s.bed := rfl
@[simp] theorem refreshLines_brine : (refreshLines s).brine = s.brine := rfl
@[simp] theorem refreshLines_run : (refreshLines s).run = s.run := rfl
@[simp] theorem refreshLines_queue : (refreshLines s).queue = s.queue := rfl
@[simp] theorem refreshLines_filter : (refreshLines s).filter = s.filter := rfl
@[simp] theorem refreshLines_valves : (refreshLines s).valves = s.valves := rfl
@[simp] theorem refreshLines_leak : (refreshLines s).leak = s.leak := rfl
@[simp] theorem refreshLines_loop : (refreshLines s).loop = s.loop := rfl
@[simp] theorem refreshLines_supply : (refreshLines s).supply = s.supply := rfl
@[simp] theorem refreshLines_store : (refreshLines s).store = s.store := rfl
@[simp] theorem refreshLines_resets : (refreshLines s).resets = s.resets := rfl
@[simp] theorem refreshLines_signals : (refreshLines s).signals = s.signals := rfl
@[simp] theorem refreshLines_writeDue : (refreshLines s).writeDue = s.writeDue := rfl
@[simp] theorem refreshLines_freeSeed : (refreshLines s).freeSeed = s.freeSeed := rfl

/-! ## Reading back -/

@[simp] theorem raiseEvent_events (e : Event) :
    (raiseEvent e s).link.events = insertEvent s.time.counter e s.link.events := rfl
@[simp] theorem raiseEvent_mask (e : Event) : (raiseEvent e s).link.mask = s.link.mask := rfl
@[simp] theorem raiseEvent_reply (e : Event) : (raiseEvent e s).link.reply = s.link.reply := rfl
@[simp] theorem raiseEvent_linkState (e : Event) : (raiseEvent e s).link.state = s.link.state := rfl
@[simp] theorem writeTrigger_writeDue : (writeTrigger s).writeDue = true := rfl
@[simp] theorem push_signals (sig : Signal) : (push sig s).signals = s.signals ++ [sig] := rfl
@[simp] theorem setCtx_ctx (c : RunCtx) : (setCtx c s).run.ctx = some c := rfl
@[simp] theorem setCtx_table (c : RunCtx) : (setCtx c s).run.table = s.run.table := rfl
@[simp] theorem setCtx_holds (c : RunCtx) : (setCtx c s).run.holds = s.run.holds := rfl
@[simp] theorem setCtx_copy (c : RunCtx) : (setCtx c s).run.copy = s.run.copy := rfl
@[simp] theorem setGrant_grant (g : Option Grant) : (setGrant g s).valves.grant = g := rfl
@[simp] theorem setGrant_stamps (g : Option Grant) : (setGrant g s).valves.stamps = s.valves.stamps := rfl
@[simp] theorem setFlight_inFlight (x : Option Transaction) : (setFlight x s).loop.inFlight = x := rfl
@[simp] theorem setFlight_pods (x : Option Transaction) : (setFlight x s).loop.pods = s.loop.pods := rfl
@[simp] theorem setFlight_releases (x : Option Transaction) : (setFlight x s).loop.releases = s.loop.releases := rfl
@[simp] theorem setFlight_listen (x : Option Transaction) : (setFlight x s).loop.listen = s.loop.listen := rfl
@[simp] theorem setValve_grant (v : Valve) (r : ValveRec) : (setValve v r s).valves.grant = s.valves.grant := by
  cases v <;> rfl
@[simp] theorem setValve_stamps (v : Valve) (r : ValveRec) : (setValve v r s).valves.stamps = s.valves.stamps := by
  cases v <;> rfl
@[simp] theorem refreshLines_events : (refreshLines s).link.events = s.link.events := rfl
@[simp] theorem refreshLines_reply : (refreshLines s).link.reply = s.link.reply := rfl
@[simp] theorem refreshLines_mask : (refreshLines s).link.mask = s.link.mask := rfl
@[simp] theorem refreshLines_alarm : (refreshLines s).alarm = alarmLine s := rfl
@[simp] theorem refreshLines_attn : (refreshLines s).link.attn = attnLine s := rfl

/-- A tank's record reads back as it was written. -/
@[simp] theorem tankRec_setTank (t : Tank) (r : TankRec) : tankRec t (setTank t r s) = r := by cases t <;> rfl

/-- Writing a tank's record leaves the other tank's alone. -/
@[simp] theorem tankRec_setTank_other (t : Tank) (r : TankRec) :
    tankRec t.other (setTank t r s) = tankRec t.other s := by cases t <;> rfl

/-- The other of the other tank is the tank. -/
@[simp] theorem tank_other_other (t : Tank) : t.other.other = t := by cases t <;> rfl

/-- A valve's record reads back as it was written. -/
@[simp] theorem valveRec_setValve (v : Valve) (r : ValveRec) : valveRec v (setValve v r s) = r := by cases v <;> rfl

/-- Writing a valve's record leaves every other valve's alone. -/
theorem valveRec_setValve_ne {v w : Valve} (h : w ≠ v) (r : ValveRec) :
    valveRec w (setValve v r s) = valveRec w s := by cases v <;> cases w <;> first | rfl | exact absurd rfl h

/-- The grant is no part of a valve's record. -/
@[simp] theorem valveRec_setGrant (v : Valve) (g : Option Grant) : valveRec v (setGrant g s) = valveRec v s := by
  cases v <;> rfl

/-- A channel's record reads back as it was written. -/
@[simp] theorem channelRec_setChannel (c : Channel) (r : ChannelRec) : channelRec c (setChannel c r s) = r := by
  cases c <;> rfl

/-- Writing a channel's record leaves every other channel's alone. -/
theorem channelRec_setChannel_ne {c d : Channel} (h : d ≠ c) (r : ChannelRec) :
    channelRec d (setChannel c r s) = channelRec d s := by cases c <;> cases d <;> first | rfl | exact absurd rfl h

/-- A unit deferral reads back as it was written. -/
@[simp] theorem unitDeferral_setDeferral (u : HeadUnit) (d : Option Nat) :
    unitDeferral u (setDeferral u d s) = d := by cases u <;> rfl

end Sys2Proof.Machine
end

