-- ==== Sys2Proof/Laws/Operations.lean ====
section
/-! SUPPORT. What each shared operation can do, said once: how an action ends, what no follow-up within an action
touches, and the frame of the operations several commands share. -/

namespace Sys2Proof.Machine

/-! ## How an action ends (R114, R116, R152, R176, R192) -/

/-- With nothing under way there is nothing to deliver. -/
theorem deliver_of_signals_nil {s : State} (h : s.signals = []) : deliver s = s := by
  simp [deliver, deliverFrom, h]

/-- Where all that is under way ends within n reports, a larger bound changes nothing (log 28). -/
theorem deliverFrom_of_settles {n m : Nat} {s : State} (h : settles n s = true) (k : n ≤ m) :
    deliverFrom m s = deliverFrom n s := by
  induction n generalizing m s with
  | zero =>
    have e : s.signals = [] := by simpa [settles] using h
    cases m with
    | zero => rfl
    | succ m => simp only [deliverFrom, e]; rw [← e]
  | succ n ih =>
    obtain ⟨m, rfl⟩ : ∃ j, m = j + 1 := ⟨m - 1, by omega⟩
    cases e : s.signals with
    | nil => simp only [deliverFrom, e]
    | cons sig rest =>
      simp only [settles, e] at h
      simp only [deliverFrom, e]
      exact ih h (by omega)

/-- With no trigger left there is no write to settle. -/
theorem settleWrites_of_not_due {s : State} (h : s.writeDue = false) : settleWrites s = s := by
  simp [settleWrites, h]

/-- The trigger is taken at the end of an action. -/
theorem settleWrites_of_due {s : State} (h : s.writeDue = true) :
    settleWrites s = beginWrite { s with writeDue := false } := by
  simp [settleWrites, h]

/-- An action with no follow-up and no trigger ends with its lines. -/
theorem finish_of_quiet {s : State} (h : s.signals = []) (w : s.writeDue = false) : finish s = refreshLines s := by
  rw [finish, deliver_of_signals_nil h, settleWrites_of_not_due w]

/-- An action that leaves nothing under way and moves neither line changes nothing at its end. -/
theorem finish_of_lines {s : State} (h : s.signals = []) (w : s.writeDue = false) (a : s.alarm = alarmLine s)
    (b : s.link.attn = attnLine s) : finish s = s := by
  rw [finish_of_quiet h w, refreshLines, ← a, ← b]

/-- The lines of a part at rest, without the reset. -/
theorem AtRest.lines {s : State} (h : AtRest s) : s.alarm = alarmLine s ∧ s.link.attn = attnLine s := by
  obtain ⟨h0, -, -, h3, h4⟩ := h
  simpa [h0] using And.intro h3 h4

/-- A part at rest is what an action that does nothing leaves. -/
theorem AtRest.finish {s : State} (h : AtRest s) : finish s = s :=
  finish_of_lines h.2.1 h.2.2.1 h.lines.1 h.lines.2

/-- An action of a part at rest runs to its end. -/
theorem running_atRest {s : State} (h : AtRest s) (f : State → State) : running f s = finish (f s) := by
  simp [running, h.1]

/-- A condition that does not stand leaves a part at rest as it is (log 1). -/
theorem whenDue_of_not {s : State} (h : AtRest s) {due : State → Bool} (f : State → State) (n : due s = false) :
    whenDue due f s = s := by
  simp only [whenDue, running_atRest h, n]
  exact h.finish

/-- A condition that stands is acted on. -/
theorem whenDue_of {s : State} (h : AtRest s) {due : State → Bool} (f : State → State) (d : due s = true) :
    whenDue due f s = finish (f s) := by
  simp [whenDue, running_atRest h, d]

/-- Where nothing is found, a part at rest stays as it is (log 1). -/
theorem whenFound_none {α : Type} {s : State} (h : AtRest s) {due : State → Option α} (f : α → State → State)
    (n : due s = none) : whenFound due f s = s := by
  simp only [whenFound, running_atRest h, n]
  exact h.finish

/-- What is found is acted on. -/
theorem whenFound_some {α : Type} {s : State} (h : AtRest s) {due : State → Option α} (f : α → State → State) {x : α}
    (d : due s = some x) : whenFound due f s = finish (f x s) := by
  simp [whenFound, running_atRest h, d]

/-- A part held in reset takes no action. -/
theorem running_held {s : State} (h : held s = true) (f : State → State) : running f s = s := by simp [running, h]

/-! ## Requests (R182 to R185) -/

/-- The link hears a part at rest that listens. -/
theorem Listens.not_deaf {s : State} (h : Listens s) : linkDeaf s = false := by
  obtain ⟨⟨h0, -⟩, -, h2, -⟩ := h
  cases hr : s.supply.regime <;> simp_all [linkDeaf]

/-- A part that listens takes any frame whole. -/
theorem Listens.completes {s : State} (h : Listens s) (body : List Byte) : completes body s = true := by
  rcases h.2.2.2 with h | h <;> simp [Machine.completes, h]

/-- A message that reaches a part that listens is answered (R184, R185). -/
theorem message_listens {s : State} (h : Listens s) {m : Instr} {r : Link.Request} (e : Link.requestOf m = some r) :
    message m s = answer m r s := by
  simp [message, e, h.not_deaf, h.completes, takeRequest, h.2.1]

/-- What a message's own effect leaves, its follow-ups and the reply from the state they leave are the whole of its
action (R185). -/
theorem answer_eq (m : Instr) (r : Link.Request) (s : State) :
    let out := effectOf m (frameTaken s)
    answer m r s = finish (sending (replyKind m r.kind) r.tag out.1.status (out.1.record (deliver out.2))
      (deliver out.2)) := rfl

/-- A message whose effect changes nothing leaves a part at rest with its reply alone. -/
theorem answer_pure {s : State} (h : AtRest s) {m : Instr} (r : Link.Request) {st : Status}
    {record : State → List Byte} (e : effectOf m (frameTaken s) = (⟨st, record⟩, frameTaken s)) :
    answer m r s = withReply (replyKind m r.kind) r.tag st (record (frameTaken s)) s := by
  have d : deliver (frameTaken s) = frameTaken s := deliver_of_signals_nil h.2.1
  rw [answer_eq, e]
  simp only [d]
  exact finish_of_lines h.2.1 h.2.2.1 h.lines.1 h.lines.2

/-- A refused message is answered with its status and changes nothing but the link (R185). -/
theorem message_refused {s : State} (h : Listens s) {m : Instr} {r : Link.Request} (e : Link.requestOf m = some r)
    {st : Status} (w : effectOf m (frameTaken s) = refuse st (frameTaken s)) :
    message m s = withReply (replyKind m r.kind) r.tag st [] s := by
  rw [message_listens h e]
  exact answer_pure h.1 r w

/-- A message that only reads is answered with its record (R185). -/
theorem message_reads {s : State} (h : Listens s) {m : Instr} {r : Link.Request} (e : Link.requestOf m = some r)
    {record : State → List Byte} (w : effectOf m = query record) :
    message m s = withReply (replyKind m r.kind) r.tag .ok (record (frameTaken s)) s := by
  rw [message_listens h e]
  exact answer_pure h.1 r (by rw [w]; rfl)

/-! ## The flow sample (R105) -/

/-- The metering interval moves no valve, so that the expiry's status of V_FLT is the one before it (R105). -/
@[simp] theorem closeInterval_valves (s : State) : (closeInterval s).2.valves = s.valves := by
  have j : (judgeDrain s).valves = s.valves := by
    unfold judgeDrain; dsimp only
    (repeat' split) <;> rfl
  have u : ∀ n t, (addUsage n t).valves = t.valves := fun n t => by unfold addUsage; split <;> rfl
  rw [← j]
  exact u _ _
/-! ## Moves (R115, R121) -/

/-- A valve's status leaves the driver grant as it was. -/
@[simp] theorem setStatus_grant (v : Valve) (st : ValveStatus) (s : State) :
    (setStatus v st s).valves.grant = s.valves.grant := by
  unfold setStatus; dsimp only; split <;> simp [push]

/-- DRIVE begins in HOLD where the reading confirms the target, and else drives the way that this reading gives, for the
nominal time of its count, in a first attempt and in a retry (R115, R121, R123). -/
theorem startDrive_eq (g : Grant) (s : State) :
    let reading := (valveRec g.valve s).sense
    let way := moveDirection g.valve reading g.target
    (reading = .pos g.target →
      startDrive g s = setStatus g.valve .moving (setGrant (some { g with phase := .hold }) s)) ∧
    (reading ≠ .pos g.target → (startDrive g s).valves.grant = some { g with
      phase := .drive, dir := some way.1, nominal := nominalDrive g.valve way.2 }) := by
  refine ⟨fun h => ?_, fun h => ?_⟩
  · simp [startDrive, h]
  · simp only [startDrive, if_neg h, setStatus_grant, setValve_grant]
    rfl

/-! ## Events (R188) -/

/-- The set after an event holds an entry of its kind. -/
theorem insertEvent_has (now : Nat) (e : Event) (l : List PendingEvent) :
    ∃ p ∈ insertEvent now e l, eventCode p.event = eventCode e := by
  induction l with
  | nil => exact ⟨_, List.mem_singleton.mpr rfl, rfl⟩
  | cons p ps ih =>
    by_cases h1 : eventCode p.event = eventCode e
    · exact ⟨{ p with count := satAdd 255 p.count 1 }, by simp [insertEvent, h1], h1⟩
    · by_cases h2 : eventCode e < eventCode p.event
      · exact ⟨⟨e, 1, now⟩, by simp [insertEvent, h1, h2], rfl⟩
      · obtain ⟨q, hq, hc⟩ := ih
        exact ⟨q, by simp [insertEvent, h1, h2, hq], hc⟩

/-- Every kind pending before is pending after. -/
theorem insertEvent_keeps (now : Nat) (e : Event) (l : List PendingEvent) (k : Nat)
    (h : ∃ p ∈ l, eventCode p.event = k) : ∃ p ∈ insertEvent now e l, eventCode p.event = k := by
  induction l with
  | nil => simp at h
  | cons p ps ih =>
    obtain ⟨q, hq, hk⟩ := h
    by_cases h1 : eventCode p.event = eventCode e
    · rcases List.mem_cons.mp hq with rfl | hq
      · exact ⟨{ q with count := satAdd 255 q.count 1 }, by simp [insertEvent, h1], hk⟩
      · exact ⟨q, by simp [insertEvent, h1, hq], hk⟩
    · by_cases h2 : eventCode e < eventCode p.event
      · exact ⟨q, by simp only [insertEvent, h1, h2, if_true, if_false]; exact List.mem_cons_of_mem _ hq, hk⟩
      · rcases List.mem_cons.mp hq with rfl | hq
        · exact ⟨q, by simp [insertEvent, h1, h2], hk⟩
        · obtain ⟨r, hr, hc⟩ := ih ⟨q, hq, hk⟩
          exact ⟨r, by simp [insertEvent, h1, h2, hr], hc⟩

end Sys2Proof.Machine
end

