-- ==== Sys2Proof/Laws/Steady.lean ====
section
/-! SUPPORT. What no operation of a block and no follow-up touches: the queue of commands, the settings, the time base, the
meters, the channels, the Snapshot Store, the resets, the ALARM line. One lemma for each operation, over one projection. -/

namespace Sys2Proof.Machine

/-- The part of the state that only a command's own message, second, interval, reading, write or reset touches. -/
def steady (s : State) :
    List Instr × Settings × TimeBase × MeterBlock × AnalogScan × SnapshotStore × ResetControl × Bool :=
  (s.pending, s.settings, s.time, s.meter, s.analog, s.store, s.resets, s.alarm)

/-- An update of the other fields leaves the steady part alone. -/
@[simp] theorem steady_update (s : State) (bed : BedAccounting) (brine : BrineMonitor) (run : RunController)
    (queue : DrainQueue) (filter : FilterMonitor) (valves : ValveDrive) (leak : LeakMonitor) (loop : LoopMaster)
    (supply : SupplyMonitor) (link : ServiceLink) (signals : List Signal) (writeDue : Bool) (freeSeed : Nat) :
    steady { s with
      bed := bed, brine := brine, run := run, queue := queue, filter := filter, valves := valves, leak := leak
      loop := loop, supply := supply, link := link, signals := signals, writeDue := writeDue
      freeSeed := freeSeed } = steady s := rfl

variable (s : State)

@[simp] theorem raiseEvent_steady (e : Event) : steady (raiseEvent e s) = steady s := by
  unfold raiseEvent; try dsimp only
  simp
@[simp] theorem writeTrigger_steady : steady (writeTrigger s) = steady s := by
  unfold writeTrigger; try dsimp only
  simp
@[simp] theorem push_steady (g : Signal) : steady (push g s) = steady s := by
  unfold push; try dsimp only
  simp
@[simp] theorem setTank_steady (t : Tank) (r : TankRec) : steady (setTank t r s) = steady s := by cases t <;> rfl
@[simp] theorem setValve_steady (v : Valve) (r : ValveRec) : steady (setValve v r s) = steady s := by cases v <;> rfl
@[simp] theorem setDeferral_steady (u : HeadUnit) (d : Option Nat) : steady (setDeferral u d s) = steady s := by cases u <;> rfl
@[simp] theorem setSense_steady (v : Valve) (r : Reading) : steady (setSense v r s) = steady s := by
  unfold setSense; try dsimp only
  simp
@[simp] theorem setWaiting_steady (v : Valve) (r : Option MoveReq) : steady (setWaiting v r s) = steady s := by
  unfold setWaiting; try dsimp only
  simp
@[simp] theorem setGrant_steady (g : Option Grant) : steady (setGrant g s) = steady s := by
  unfold setGrant; try dsimp only
  simp
@[simp] theorem setStatus_steady (v : Valve) (x : ValveStatus) : steady (setStatus v x s) = steady s := by
  unfold setStatus; try dsimp only
  (repeat' split) <;> simp
@[simp] theorem answerWaiting_steady (v : Valve) (x : Answer) : steady (answerWaiting v x s) = steady s := by
  unfold answerWaiting; try dsimp only
  (repeat' split) <;> simp
@[simp] theorem meetMove_steady (v : Valve) (r : MoveReq) (g : Grant) : steady (meetMove v r g s) = steady s := by
  unfold meetMove; try dsimp only
  (repeat' split) <;> simp
@[simp] theorem postRequest_steady (v : Valve) (n : Nat) (c : MoveClass) (w : Requester) : steady (postRequest v n c w s) = steady s := by
  unfold postRequest; try dsimp only
  (repeat' split) <;> simp
@[simp] theorem startDrive_steady (g : Grant) : steady (startDrive g s) = steady s := by
  unfold startDrive; try dsimp only
  (repeat' split) <;> simp
@[simp] theorem recheckMove_steady (g : Grant) : steady (recheckMove g s) = steady s := by
  unfold recheckMove; try dsimp only
  (repeat' split) <;> simp
@[simp] theorem takeGrant_steady (v : Valve) (r : MoveReq) : steady (takeGrant v r s) = steady s := by
  unfold takeGrant; try dsimp only
  (repeat' split) <;> simp
theorem arbitrateFrom_steady (n : Nat) : steady (arbitrateFrom n s) = steady s := by
  induction n generalizing s with
  | zero => rfl
  | succ n ih => unfold arbitrateFrom; (repeat' split) <;> simp [ih]
@[simp] theorem arbitrate_steady : steady (arbitrate s) = steady s := arbitrateFrom_steady s 4
@[simp] theorem completeMove_steady (g : Grant) : steady (completeMove g s) = steady s := by
  unfold completeMove; try dsimp only
  (repeat' split) <;> simp
@[simp] theorem failMove_steady (g : Grant) : steady (failMove g s) = steady s := by
  unfold failMove; try dsimp only
  (repeat' split) <;> simp
@[simp] theorem reissue_steady (v : Valve) : steady (reissue v s) = steady s := by
  unfold reissue; try dsimp only
  (repeat' split) <;> simp
@[simp] theorem changeQueue_steady (l : List Entry) : steady (changeQueue l s) = steady s := by
  unfold changeQueue; try dsimp only
  simp
@[simp] theorem joinQueue_steady (u : HeadUnit) (c : Cls) (r : Reason) (d : Nat) : steady (joinQueue u c r d s) = steady s := by
  unfold joinQueue; try dsimp only
  simp
@[simp] theorem mergeEntry_steady (e : Entry) (w : Asker) (c : Cls) : steady (mergeEntry e w c s) = steady s := by
  unfold mergeEntry; try dsimp only
  (repeat' split) <;> simp
@[simp] theorem raiseHold_steady (u : HeadUnit) (c : Cls) : steady (raiseHold u c s) = steady s := by
  unfold raiseHold; try dsimp only
  simp
@[simp] theorem queueRequest_steady (w : Asker) (u : HeadUnit) (c : Cls) (r : Reason) (d : Nat) : steady (queueRequest w u c r d s) = steady s := by
  unfold queueRequest; try dsimp only
  (repeat' split) <;> simp
@[simp] theorem removeEntry_steady (u : HeadUnit) : steady (removeEntry u s) = steady s := by
  unfold removeEntry; try dsimp only
  simp
@[simp] theorem ageClasses_steady : steady (ageClasses s) = steady s := by
  unfold ageClasses; try dsimp only
  (repeat' split) <;> simp
@[simp] theorem queueSecond_steady : steady (queueSecond s) = steady s := by
  unfold queueSecond; try dsimp only
  simp
@[simp] theorem queueSample_steady (x : Sample) : steady (queueSample x s) = steady s := by
  unfold queueSample; try dsimp only
  (repeat' split) <;> simp
@[simp] theorem clearCountersTo_steady (l : Option Nat) : steady (clearCountersTo l s) = steady s := by
  unfold clearCountersTo; try dsimp only
  simp
@[simp] theorem clearCounters_steady : steady (clearCounters s) = steady s := by
  unfold clearCounters; try dsimp only
  simp
@[simp] theorem rebaseline_steady (n : Nat) : steady (rebaseline n s) = steady s := by
  unfold rebaseline; try dsimp only
  simp
@[simp] theorem raiseReminder_steady : steady (raiseReminder s) = steady s := by
  unfold raiseReminder; try dsimp only
  simp
@[simp] theorem evalStage_steady : steady (evalStage s) = steady s := by
  unfold evalStage; try dsimp only
  (repeat' split) <;> simp
@[simp] theorem reminderExpiry_steady : steady (reminderExpiry s) = steady s := by
  unfold reminderExpiry; try dsimp only
  (repeat' split) <;> simp
@[simp] theorem snoozeExpiry_steady : steady (snoozeExpiry s) = steady s := by
  unfold snoozeExpiry; try dsimp only
  simp
@[simp] theorem brineSecond_steady : steady (brineSecond s) = steady s := by
  unfold brineSecond; try dsimp only
  (repeat' split) <;> simp
@[simp] theorem judgeLevel_steady (n : Nat) : steady (judgeLevel n s) = steady s := by
  unfold judgeLevel; try dsimp only
  (repeat' split) <;> simp
@[simp] theorem acceptLevel_steady (n : Nat) : steady (acceptLevel n s) = steady s := by
  unfold acceptLevel; try dsimp only
  simp
@[simp] theorem levelReading_steady : steady (levelReading s) = steady s := by
  unfold levelReading; try dsimp only
  (repeat' split) <;> simp
@[simp] theorem refillEnd_steady (n : Nat) : steady (refillEnd n s) = steady s := by
  unfold refillEnd; try dsimp only
  simp
@[simp] theorem lowerModel_steady (n : Nat) : steady (lowerModel n s) = steady s := by
  unfold lowerModel; try dsimp only
  simp
@[simp] theorem addSalt_steady (n : Nat) : steady (addSalt n s) = steady s := by
  unfold addSalt; try dsimp only
  simp
@[simp] theorem bridgeTest_steady : steady (bridgeTest s) = steady s := by
  unfold bridgeTest; try dsimp only
  (repeat' split) <;> simp
@[simp] theorem brineCompletion_steady (n : Nat) : steady (brineCompletion n s) = steady s := by
  unfold brineCompletion; try dsimp only
  simp
@[simp] theorem brineAbort_steady (a b c : Nat) : steady (brineAbort a b c s) = steady s := by
  unfold brineAbort; try dsimp only
  simp
@[simp] theorem closeSaltDay_steady : steady (closeSaltDay s) = steady s := by
  unfold closeSaltDay; try dsimp only
  simp
@[simp] theorem geometryChanged_steady : steady (geometryChanged s) = steady s := by
  unfold geometryChanged; try dsimp only
  simp
@[simp] theorem beginHardWater_steady (b : Bool) : steady (beginHardWater b s) = steady s := by
  unfold beginHardWater; try dsimp only
  (repeat' split) <;> simp
@[simp] theorem requestChangeover_steady (c : Option Cls) : steady (requestChangeover c s) = steady s := by
  unfold requestChangeover; try dsimp only
  simp
@[simp] theorem changeoverTest_steady : steady (changeoverTest s) = steady s := by
  unfold changeoverTest; try dsimp only
  (repeat' split) <;> simp
@[simp] theorem hardWaterTest_steady : steady (hardWaterTest s) = steady s := by
  unfold hardWaterTest; try dsimp only
  (repeat' split) <;> simp
@[simp] theorem askChangeover_steady (c : Cls) : steady (askChangeover c s) = steady s := by
  unfold askChangeover; try dsimp only
  (repeat' split) <;> simp
@[simp] theorem placeMetered_steady : steady (placeMetered s) = steady s := by
  unfold placeMetered; try dsimp only
  (repeat' split) <;> simp
@[simp] theorem urgencyChanged_steady : steady (urgencyChanged s) = steady s := by
  unfold urgencyChanged; try dsimp only
  simp
@[simp] theorem evaluateUrgency_steady : steady (evaluateUrgency s) = steady s := by
  unfold evaluateUrgency; try dsimp only
  (repeat' split) <;> simp
@[simp] theorem recomputeReserve_steady : steady (recomputeReserve s) = steady s := by
  unfold recomputeReserve; try dsimp only
  simp
@[simp] theorem chargeLoad_steady (n : Nat) : steady (chargeLoad n s) = steady s := by
  unfold chargeLoad; try dsimp only
  (repeat' split) <;> simp
@[simp] theorem bedSample_steady (x : Sample) : steady (bedSample x s) = steady s := by
  unfold bedSample; try dsimp only
  simp
@[simp] theorem hardnessChanged_steady : steady (hardnessChanged s) = steady s := by
  unfold hardnessChanged; try dsimp only
  simp
@[simp] theorem clampTank_steady (t : Tank) : steady (clampTank t s) = steady s := by
  unfold clampTank; try dsimp only
  simp
@[simp] theorem nominalChanged_steady : steady (nominalChanged s) = steady s := by
  unfold nominalChanged; try dsimp only
  simp
@[simp] theorem passRoles_steady : steady (passRoles s) = steady s := by
  unfold passRoles; try dsimp only
  simp
@[simp] theorem dropChangeover_steady : steady (dropChangeover s) = steady s := by
  unfold dropChangeover; try dsimp only
  simp
@[simp] theorem completeChangeover_steady : steady (completeChangeover s) = steady s := by
  unfold completeChangeover; try dsimp only
  (repeat' split) <;> simp
@[simp] theorem bedAnswer_steady (r : MoveReq) (a : Answer) : steady (bedAnswer r a s) = steady s := by
  unfold bedAnswer; try dsimp only
  (repeat' split) <;> simp
@[simp] theorem probeFault_steady (t : Tank) : steady (probeFault t s) = steady s := by
  unfold probeFault; try dsimp only
  simp
@[simp] theorem probeCorrection_steady (t : Tank) : steady (probeCorrection t s) = steady s := by
  unfold probeCorrection; try dsimp only
  (repeat' split) <;> simp
@[simp] theorem probeTrip_steady (t : Tank) : steady (probeTrip t s) = steady s := by
  unfold probeTrip; try dsimp only
  (repeat' split) <;> simp
@[simp] theorem probeReading_steady (t : Tank) : steady (probeReading t s) = steady s := by
  unfold probeReading; try dsimp only
  (repeat' split) <;> simp
@[simp] theorem bedRunDone_steady (t : Tank) (p n : Nat) : steady (bedRunDone t p n s) = steady s := by
  unfold bedRunDone; try dsimp only
  (repeat' split) <;> simp
@[simp] theorem bedAbortLate_steady (t : Tank) (r : AbortReason) (p n : Nat) : steady (bedAbortLate t r p n s) = steady s := by
  unfold bedAbortLate; try dsimp only
  (repeat' split) <;> simp
@[simp] theorem bedAbortEarly_steady (t : Tank) (r : AbortReason) (n : Nat) : steady (bedAbortEarly t r n s) = steady s := by
  unfold bedAbortEarly; try dsimp only
  simp
@[simp] theorem bedRunAborted_steady (t : Tank) (r : AbortReason) (b : Bool) (p n : Nat) : steady (bedRunAborted t r b p n s) = steady s := by
  unfold bedRunAborted; try dsimp only
  (repeat' split) <;> simp
@[simp] theorem filterStatusReport_steady : steady (filterStatusReport s) = steady s := by
  unfold filterStatusReport; try dsimp only
  (repeat' split) <;> simp
@[simp] theorem countFiltered_steady (b : Bool) (n : Nat) : steady (countFiltered b n s) = steady s := by
  unfold countFiltered; try dsimp only
  (repeat' split) <;> simp
@[simp] theorem latchPressure_steady : steady (latchPressure s) = steady s := by
  unfold latchPressure; try dsimp only
  simp
@[simp] theorem latchClogged_steady (a b c : Nat) : steady (latchClogged a b c s) = steady s := by
  unfold latchClogged; try dsimp only
  simp
@[simp] theorem highDp_steady (a b c : Nat) : steady (highDp a b c s) = steady s := by
  unfold highDp; try dsimp only
  (repeat' split) <;> simp
@[simp] theorem measurePressure_steady (x : Sample) : steady (measurePressure x s) = steady s := by
  unfold measurePressure; try dsimp only
  (repeat' split) <;> simp
@[simp] theorem filterRequest_steady : steady (filterRequest s) = steady s := by
  unfold filterRequest; try dsimp only
  (repeat' split) <;> simp
@[simp] theorem filterSample_steady (b : Bool) (x : Sample) : steady (filterSample b x s) = steady s := by
  unfold filterSample; try dsimp only
  (repeat' split) <;> simp
@[simp] theorem filterDay_steady : steady (filterDay s) = steady s := by
  unfold filterDay; try dsimp only
  simp
@[simp] theorem filterBegun_steady : steady (filterBegun s) = steady s := by
  unfold filterBegun; try dsimp only
  simp
@[simp] theorem filterDone_steady : steady (filterDone s) = steady s := by
  unfold filterDone; try dsimp only
  simp
@[simp] theorem filterAborted_steady : steady (filterAborted s) = steady s := by
  unfold filterAborted; try dsimp only
  simp
@[simp] theorem setCtx_steady (c : RunCtx) : steady (setCtx c s) = steady s := by
  unfold setCtx; try dsimp only
  simp
@[simp] theorem saveCopy_steady : steady (saveCopy s) = steady s := by
  unfold saveCopy; try dsimp only
  simp
@[simp] theorem sendMove_steady (c : RunCtx) (k : AwaitKind) (n : Nat) (m : MoveClass) : steady (sendMove c k n m s) = steady s := by
  unfold sendMove; try dsimp only
  simp
@[simp] theorem addHold_steady (h : RequeueHold) : steady (addHold h s) = steady s := by
  unfold addHold; try dsimp only
  simp
@[simp] theorem requeue_steady (c : RunCtx) (r : AbortReason) : steady (requeue c r s) = steady s := by
  unfold requeue; try dsimp only
  (repeat' split) <;> simp
@[simp] theorem raiseDone_steady (c : RunCtx) : steady (raiseDone c s) = steady s := by
  unfold raiseDone; try dsimp only
  (repeat' split) <;> simp
@[simp] theorem endDone_steady (c : RunCtx) : steady (endDone c s) = steady s := by
  unfold endDone; try dsimp only
  (repeat' split) <;> simp
@[simp] theorem deferCancelled_steady (u : HeadUnit) (r : AbortReason) : steady (deferCancelled u r s) = steady s := by
  unfold deferCancelled; try dsimp only
  (repeat' split) <;> simp
@[simp] theorem endAborted_steady (c : RunCtx) (a : Abort) : steady (endAborted c a s) = steady s := by
  unfold endAborted; try dsimp only
  (repeat' split) <;> simp
@[simp] theorem runEnd_steady : steady (runEnd s) = steady s := by
  unfold runEnd; try dsimp only
  (repeat' split) <;> simp
@[simp] theorem toFinishing_steady (c : RunCtx) (o : RunOutcome) : steady (toFinishing c o s) = steady s := by
  unfold toFinishing; try dsimp only
  (repeat' split) <;> simp
@[simp] theorem reportAbort_steady (c : RunCtx) : steady (reportAbort c s).2 = steady s := by
  unfold reportAbort; (repeat' split) <;> simp
@[simp] theorem abortPhase_steady (c : RunCtx) : steady (abortPhase c s).2 = steady s := by
  unfold abortPhase; split
  · rfl
  · exact steady_update s _ _ _ _ _ _ _ _ _ _ _ _ _
@[simp] theorem abortRun_steady (r : AbortReason) (d : AbortDetail) (b : Bool) : steady (abortRun r d b s) = steady s := by
  unfold abortRun; try dsimp only
  (repeat' split) <;> simp
@[simp] theorem takeStep_steady (c : RunCtx) (st : Step) : steady (takeStep c st s) = steady s := by
  unfold takeStep; try dsimp only
  (repeat' split) <;> simp
@[simp] theorem enterStep_steady : steady (enterStep s) = steady s := by
  unfold enterStep; try dsimp only
  (repeat' split) <;> simp
@[simp] theorem unitBegun_steady (u : HeadUnit) : steady (unitBegun u s) = steady s := by
  unfold unitBegun; try dsimp only
  (repeat' split) <;> simp
@[simp] theorem dispatchEntry_steady (e : Entry) : steady (dispatchEntry e s) = steady s := by
  unfold dispatchEntry; try dsimp only
  simp
@[simp] theorem reevaluateGrant_steady : steady (reevaluateGrant s) = steady s := by
  unfold reevaluateGrant; try dsimp only
  (repeat' split) <;> simp
@[simp] theorem reportStepEnd_steady (c : RunCtx) (st : Step) : steady (reportStepEnd c st s) = steady s := by
  unfold reportStepEnd; try dsimp only
  (repeat' split) <;> simp
@[simp] theorem followLink_steady (c : RunCtx) (st : Step) : steady (followLink c st s) = steady s := by
  unfold followLink; try dsimp only
  (repeat' split) <;> simp
@[simp] theorem endStep_steady (c : RunCtx) (st : Step) : steady (endStep c st s) = steady s := by
  unfold endStep; try dsimp only
  simp
@[simp] theorem stepOver_steady (c : RunCtx) (st : Step) : steady (stepOver c st s) = steady s := by
  unfold stepOver; try dsimp only
  (repeat' split) <;> simp
@[simp] theorem enterHold_steady (c : RunCtx) : steady (enterHold c s) = steady s := by
  unfold enterHold; try dsimp only
  simp
@[simp] theorem holdTest_steady (c : RunCtx) (st : Step) (x : Sample) : steady (holdTest c st x s) = steady s := by
  unfold holdTest; try dsimp only
  (repeat' split) <;> simp
@[simp] theorem releaseHold_steady (c : RunCtx) : steady (releaseHold c s) = steady s := by
  unfold releaseHold; try dsimp only
  (repeat' split) <;> simp
@[simp] theorem holdSample_steady (c : RunCtx) (x : Sample) : steady (holdSample c x s) = steady s := by
  unfold holdSample; try dsimp only
  (repeat' split) <;> simp
@[simp] theorem powerLimitAbort_steady : steady (powerLimitAbort s) = steady s := by
  unfold powerLimitAbort; try dsimp only
  simp
@[simp] theorem suspendedSample_steady (c : RunCtx) : steady (suspendedSample c s) = steady s := by
  unfold suspendedSample; try dsimp only
  (repeat' split) <;> simp
@[simp] theorem reposition_steady (c : RunCtx) : steady (reposition c s) = steady s := by
  unfold reposition; try dsimp only
  simp
@[simp] theorem resumeParked_steady (c : RunCtx) (st : Step) : steady (resumeParked c st s) = steady s := by
  unfold resumeParked; try dsimp only
  (repeat' split) <;> simp
@[simp] theorem resumeRun_steady (c : RunCtx) : steady (resumeRun c s) = steady s := by
  unfold resumeRun; try dsimp only
  (repeat' split) <;> simp
@[simp] theorem resumeIfDue_steady : steady (resumeIfDue s) = steady s := by
  unfold resumeIfDue; try dsimp only
  (repeat' split) <;> simp
@[simp] theorem addShutoff_steady : steady (addShutoff s) = steady s := by
  unfold addShutoff; try dsimp only
  (repeat' split) <;> simp
@[simp] theorem removeShutoff_steady : steady (removeShutoff s) = steady s := by
  unfold removeShutoff; try dsimp only
  (repeat' split) <;> simp
@[simp] theorem addPower_steady : steady (addPower s) = steady s := by
  unfold addPower; try dsimp only
  (repeat' split) <;> simp
@[simp] theorem removePower_steady : steady (removePower s) = steady s := by
  unfold removePower; try dsimp only
  (repeat' split) <;> simp
@[simp] theorem runningSample_steady (c : RunCtx) (st : Step) (x : Sample) : steady (runningSample c st x s) = steady s := by
  unfold runningSample; try dsimp only
  (repeat' split) <;> simp
@[simp] theorem runSample_steady (x : Sample) : steady (runSample x s) = steady s := by
  unfold runSample; try dsimp only
  (repeat' split) <;> simp
@[simp] theorem moveCompleted_steady (c : RunCtx) (w : Awaited) : steady (moveCompleted c w s) = steady s := by
  unfold moveCompleted; try dsimp only
  (repeat' split) <;> simp
@[simp] theorem runAnswer_steady (v : Valve) (r : MoveReq) (a : Answer) : steady (runAnswer v r a s) = steady s := by
  unfold runAnswer; try dsimp only
  (repeat' split) <;> simp
@[simp] theorem positionLost_steady (c : RunCtx) (x : ValveStatus) : steady (positionLost c x s) = steady s := by
  unfold positionLost; try dsimp only
  (repeat' split) <;> simp
@[simp] theorem runValveReport_steady (v : Valve) (x : ValveStatus) : steady (runValveReport v x s) = steady s := by
  unfold runValveReport; try dsimp only
  (repeat' split) <;> simp
@[simp] theorem runShutReport_steady (x y : ValveStatus) : steady (runShutReport x y s) = steady s := by
  unfold runShutReport; try dsimp only
  (repeat' split) <;> simp
@[simp] theorem runStatusReport_steady (v : Valve) (x y : ValveStatus) : steady (runStatusReport v x y s) = steady s := by
  unfold runStatusReport; try dsimp only
  (repeat' split) <;> simp
theorem foldHolds_steady (l : List RequeueHold) :
    steady (l.foldl (fun st h => queueRequest .run h.unit h.cls .resumed 0 st) s) = steady s := by
  induction l generalizing s with
  | nil => rfl
  | cons h l ih => simp [ih]
@[simp] theorem releaseHolds_steady (p : RequeueHold → Bool) : steady (releaseHolds p s) = steady s := by
  unfold releaseHolds; simp [foldHolds_steady]
@[simp] theorem releaseValveHolds_steady (v : Valve) : steady (releaseValveHolds v s) = steady s := by
  unfold releaseValveHolds; try dsimp only
  simp
@[simp] theorem releaseEditHolds_steady : steady (releaseEditHolds s) = steady s := by
  unfold releaseEditHolds; try dsimp only
  simp
@[simp] theorem setLeakState_steady (x : LeakState) : steady (setLeakState x s) = steady s := by
  unfold setLeakState; try dsimp only
  (repeat' split) <;> simp
@[simp] theorem changeReasons_steady (c : CloseSet) : steady (changeReasons c s) = steady s := by
  unfold changeReasons; try dsimp only
  (repeat' split) <;> simp
@[simp] theorem isolate_steady : steady (isolate s) = steady s := by
  unfold isolate; try dsimp only
  simp
@[simp] theorem trip_steady (c : LeakCause) (p : Option Nat) : steady (trip c p s) = steady s := by
  unfold trip; try dsimp only
  (repeat' split) <;> simp
@[simp] theorem podWetReport_steady (n : Nat) : steady (podWetReport n s) = steady s := by
  unfold podWetReport; try dsimp only
  (repeat' split) <;> simp
@[simp] theorem rechooseClass_steady : steady (rechooseClass s) = steady s := by
  unfold rechooseClass; try dsimp only
  (repeat' split) <;> simp
@[simp] theorem fixtureMatch_steady (e : Episode) : steady (fixtureMatch e s) = steady s := by
  unfold fixtureMatch; try dsimp only
  simp
@[simp] theorem endEpisode_steady : steady (endEpisode s) = steady s := by
  unfold endEpisode; try dsimp only
  (repeat' split) <;> simp
@[simp] theorem countEpisode_steady (e : Episode) (x : Sample) : steady (countEpisode e x s) = steady s := by
  unfold countEpisode; try dsimp only
  (repeat' split) <;> simp
@[simp] theorem episodeSample_steady (x : Sample) : steady (episodeSample x s) = steady s := by
  unfold episodeSample; try dsimp only
  (repeat' split) <;> simp
@[simp] theorem warn_steady (l : LimitReached) (e : Episode) : steady (warn l e s) = steady s := by
  unfold warn; try dsimp only
  (repeat' split) <;> simp
@[simp] theorem limitTests_steady : steady (limitTests s) = steady s := by
  unfold limitTests; try dsimp only
  (repeat' split) <;> simp
@[simp] theorem burstTest_steady (x : Sample) : steady (burstTest x s) = steady s := by
  unfold burstTest; try dsimp only
  (repeat' split) <;> simp
@[simp] theorem burstSample_steady (x : Sample) : steady (burstSample x s) = steady s := by
  unfold burstSample; try dsimp only
  (repeat' split) <;> simp
@[simp] theorem endProbation_steady : steady (endProbation s) = steady s := by
  unfold endProbation; try dsimp only
  simp
@[simp] theorem probationSample_steady (x : Sample) : steady (probationSample x s) = steady s := by
  unfold probationSample; try dsimp only
  (repeat' split) <;> simp
@[simp] theorem raisePassing_steady : steady (raisePassing s) = steady s := by
  unfold raisePassing; try dsimp only
  simp
@[simp] theorem countPassing_steady (n : Nat) : steady (countPassing n s) = steady s := by
  unfold countPassing; try dsimp only
  (repeat' split) <;> simp
@[simp] theorem passingSample_steady (x : Sample) : steady (passingSample x s) = steady s := by
  unfold passingSample; try dsimp only
  (repeat' split) <;> simp
@[simp] theorem raiseDrip_steady : steady (raiseDrip s) = steady s := by
  unfold raiseDrip; try dsimp only
  simp
@[simp] theorem dripSample_steady (x : Sample) : steady (dripSample x s) = steady s := by
  unfold dripSample; try dsimp only
  (repeat' split) <;> simp
@[simp] theorem dripGapChanged_steady : steady (dripGapChanged s) = steady s := by
  unfold dripGapChanged; try dsimp only
  simp
@[simp] theorem judgeFlow_steady (x : Sample) : steady (judgeFlow x s) = steady s := by
  unfold judgeFlow; try dsimp only
  (repeat' split) <;> simp
@[simp] theorem leakSample_steady (x : Sample) : steady (leakSample x s) = steady s := by
  unfold leakSample; try dsimp only
  simp
@[simp] theorem leakShutReport_steady (x y : ValveStatus) : steady (leakShutReport x y s) = steady s := by
  unfold leakShutReport; try dsimp only
  (repeat' split) <;> simp
@[simp] theorem setPod_steady (p : Pod) : steady (setPod p s) = steady s := by
  unfold setPod; try dsimp only
  simp
@[simp] theorem podSilent_steady (p : Pod) : steady (podSilent p s) = steady s := by
  unfold podSilent; try dsimp only
  simp
@[simp] theorem podMiss_steady (p : Pod) : steady (podMiss p s) = steady s := by
  unfold podMiss; try dsimp only
  (repeat' split) <;> simp
@[simp] theorem podStateChange_steady (p : Pod) (n : PodState) : steady (podStateChange p n s) = steady s := by
  unfold podStateChange; try dsimp only
  (repeat' split) <;> simp
@[simp] theorem podBattery_steady (a : Nat) (b : Option Nat) : steady (podBattery a b s) = steady s := by
  unfold podBattery; try dsimp only
  (repeat' split) <;> simp
@[simp] theorem podTemperature_steady (a : Nat) (b : Option Int) : steady (podTemperature a b s) = steady s := by
  unfold podTemperature; try dsimp only
  (repeat' split) <;> simp
@[simp] theorem podClean_steady (p : Pod) (r : PodReport) : steady (podClean p r s) = steady s := by
  unfold podClean; try dsimp only
  (repeat' split) <;> simp
@[simp] theorem pollOutcome_steady (a : Nat) (o : PollOutcome) : steady (pollOutcome a o s) = steady s := by
  unfold pollOutcome; try dsimp only
  (repeat' split) <;> simp
@[simp] theorem setFlight_steady (x : Option Transaction) : steady (setFlight x s) = steady s := by
  unfold setFlight; try dsimp only
  simp
@[simp] theorem sendPoll_steady (a : Nat) : steady (sendPoll a s) = steady s := by
  unfold sendPoll; try dsimp only
  simp
@[simp] theorem sendRelease_steady (a : Offer) (l : List Offer) : steady (sendRelease a l s) = steady s := by
  unfold sendRelease; try dsimp only
  simp
@[simp] theorem endCycle_steady : steady (endCycle s) = steady s := by
  unfold endCycle; try dsimp only
  simp
@[simp] theorem tailOrEnd_steady : steady (tailOrEnd s) = steady s := by
  unfold tailOrEnd; try dsimp only
  (repeat' split) <;> simp
@[simp] theorem closingTransaction_steady : steady (closingTransaction s) = steady s := by
  unfold closingTransaction; try dsimp only
  (repeat' split) <;> simp
@[simp] theorem releaseTransaction_steady : steady (releaseTransaction s) = steady s := by
  unfold releaseTransaction; try dsimp only
  (repeat' split) <;> simp
@[simp] theorem chooseTransaction_steady : steady (chooseTransaction s) = steady s := by
  unfold chooseTransaction; try dsimp only
  (repeat' split) <;> simp
@[simp] theorem beginCycle_steady : steady (beginCycle s) = steady s := by
  unfold beginCycle; try dsimp only
  simp
@[simp] theorem stopCycle_steady : steady (stopCycle s) = steady s := by
  unfold stopCycle; try dsimp only
  (repeat' split) <;> simp
@[simp] theorem nextTransaction_steady : steady (nextTransaction s) = steady s := by
  unfold nextTransaction; try dsimp only
  (repeat' split) <;> simp
@[simp] theorem pollExpiry_steady : steady (pollExpiry s) = steady s := by
  unfold pollExpiry; try dsimp only
  (repeat' split) <;> simp
@[simp] theorem listenExpire_steady : steady (listenExpire s) = steady s := by
  unfold listenExpire; try dsimp only
  simp
@[simp] theorem expireIfDue_steady : steady (expireIfDue s) = steady s := by
  unfold expireIfDue; try dsimp only
  (repeat' split) <;> simp
@[simp] theorem enrolPod_steady (o : Offer) : steady (enrolPod o s) = steady s := by
  unfold enrolPod; try dsimp only
  simp
@[simp] theorem discoverSilent_steady : steady (discoverSilent s) = steady s := by
  unfold discoverSilent; try dsimp only
  simp
@[simp] theorem thenAssign_steady (o : Offer) (b : Bool) : steady (thenAssign o b s) = steady s := by
  unfold thenAssign; try dsimp only
  (repeat' split) <;> simp
@[simp] theorem enrolDiscoverEnd_steady (a : Option Nat) : steady (enrolDiscoverEnd a s) = steady s := by
  unfold enrolDiscoverEnd; try dsimp only
  (repeat' split) <;> simp
@[simp] theorem enrolAssignEnd_steady (o : Offer) (b : Bool) (c : Option Nat) : steady (enrolAssignEnd o b c s) = steady s := by
  unfold enrolAssignEnd; try dsimp only
  (repeat' split) <;> simp
@[simp] theorem recoveryDiscoverEnd_steady (a : Option Nat) : steady (recoveryDiscoverEnd a s) = steady s := by
  unfold recoveryDiscoverEnd; try dsimp only
  (repeat' split) <;> simp
@[simp] theorem releaseAssignEnd_steady (n : Offer) (c : Option Nat) : steady (releaseAssignEnd n c s) = steady s := by
  unfold releaseAssignEnd; try dsimp only
  simp
@[simp] theorem retirePod_steady (p : Pod) : steady (retirePod p s) = steady s := by
  unfold retirePod; try dsimp only
  simp
@[simp] theorem pollSecond_steady : steady (pollSecond s) = steady s := by
  unfold pollSecond; try dsimp only
  (repeat' split) <;> simp
@[simp] theorem listenSecond_steady : steady (listenSecond s) = steady s := by
  unfold listenSecond; try dsimp only
  (repeat' split) <;> simp
@[simp] theorem loopSecond_steady : steady (loopSecond s) = steady s := by
  unfold loopSecond; try dsimp only
  simp
@[simp] theorem loopDormant_steady : steady (loopDormant s) = steady s := rfl
@[simp] theorem loopRegime_steady (x y : Regime) : steady (loopRegime x y s) = steady s := by
  unfold loopRegime; try dsimp only
  (repeat' split) <;> simp
@[simp] theorem dropFrame_steady : steady (dropFrame s) = steady s := by
  unfold dropFrame; try dsimp only
  simp
@[simp] theorem runRegime_steady (x y : Regime) : steady (runRegime x y s) = steady s := by
  unfold runRegime; try dsimp only
  (repeat' split) <;> simp
@[simp] theorem setRegime_steady (x : Regime) (c : PowerCause) : steady (setRegime x c s) = steady s := by
  unfold setRegime; try dsimp only
  (repeat' split) <;> simp
@[simp] theorem removeDormant_steady : steady (removeDormant s) = steady s := by
  unfold removeDormant; try dsimp only
  simp
@[simp] theorem mainsConfirm_steady : steady (mainsConfirm s) = steady s := by
  unfold mainsConfirm; try dsimp only
  simp
@[simp] theorem enterDormant_steady : steady (enterDormant s) = steady s := by
  unfold enterDormant; try dsimp only
  simp
@[simp] theorem startCloseWait_steady : steady (startCloseWait s) = steady s := by
  unfold startCloseWait; try dsimp only
  (repeat' split) <;> simp
@[simp] theorem dormantSequence_steady : steady (dormantSequence s) = steady s := by
  unfold dormantSequence; try dsimp only
  (repeat' split) <;> simp
@[simp] theorem battReading_steady : steady (battReading s) = steady s := by
  unfold battReading; try dsimp only
  (repeat' split) <;> simp
@[simp] theorem mainsLost_steady : steady (mainsLost s) = steady s := by
  unfold mainsLost; try dsimp only
  (repeat' split) <;> simp
@[simp] theorem mainsReturned_steady : steady (mainsReturned s) = steady s := by
  unfold mainsReturned; try dsimp only
  (repeat' split) <;> simp
@[simp] theorem mainsChange_steady (b : Bool) : steady (mainsChange b s) = steady s := by
  unfold mainsChange; try dsimp only
  (repeat' split) <;> simp
@[simp] theorem confirmSecond_steady : steady (confirmSecond s) = steady s := by
  unfold confirmSecond; try dsimp only
  (repeat' split) <;> simp
@[simp] theorem waitSecond_steady : steady (waitSecond s) = steady s := by
  unfold waitSecond; try dsimp only
  (repeat' split) <;> simp
@[simp] theorem supplySecond_steady : steady (supplySecond s) = steady s := by
  unfold supplySecond; try dsimp only
  simp
@[simp] theorem supplyShutReport_steady : steady (supplyShutReport s) = steady s := by
  unfold supplyShutReport; try dsimp only
  (repeat' split) <;> simp
@[simp] theorem faultCleared_steady (v : Valve) : steady (faultCleared v s) = steady s := by
  unfold faultCleared; try dsimp only
  (repeat' split) <;> simp
@[simp] theorem shutReaders_steady (x y : ValveStatus) : steady (shutReaders x y s) = steady s := by
  unfold shutReaders; try dsimp only
  simp
@[simp] theorem statusReport_steady (v : Valve) (x y : ValveStatus) : steady (statusReport v x y s) = steady s := by
  unfold statusReport; try dsimp only
  (repeat' split) <;> simp
@[simp] theorem answerReport_steady (v : Valve) (r : MoveReq) (a : Answer) : steady (answerReport v r a s) = steady s := by
  unfold answerReport; try dsimp only
  (repeat' split) <;> simp
@[simp] theorem handle_steady (g : Signal) : steady (handle g s) = steady s := by
  unfold handle; try dsimp only
  (repeat' split) <;> simp
theorem deliverFrom_steady (n : Nat) : steady (deliverFrom n s) = steady s := by
  induction n generalizing s with
  | zero => simp [deliverFrom]
  | succ n ih => unfold deliverFrom; split <;> simp [ih]
@[simp] theorem deliver_steady : steady (deliver s) = steady s := deliverFrom_steady s 256

/-! ## Field by field -/

variable {s} {t : State}

theorem pending_of_steady (h : steady t = steady s) : t.pending = s.pending := congrArg (·.1) h
theorem settings_of_steady (h : steady t = steady s) : t.settings = s.settings := congrArg (·.2.1) h
theorem time_of_steady (h : steady t = steady s) : t.time = s.time := congrArg (·.2.2.1) h
theorem meter_of_steady (h : steady t = steady s) : t.meter = s.meter := congrArg (·.2.2.2.1) h
theorem analog_of_steady (h : steady t = steady s) : t.analog = s.analog := congrArg (·.2.2.2.2.1) h
theorem store_of_steady (h : steady t = steady s) : t.store = s.store := congrArg (·.2.2.2.2.2.1) h
theorem resets_of_steady (h : steady t = steady s) : t.resets = s.resets := congrArg (·.2.2.2.2.2.2.1) h
theorem alarm_of_steady (h : steady t = steady s) : t.alarm = s.alarm := congrArg (·.2.2.2.2.2.2.2) h

end Sys2Proof.Machine
end

