-- ==== Sys2Proof/Laws/Frames.lean ====
section
/-! SUPPORT. The frame of each block's shared operations: over the state with the block's own fields blanked, an operation
of the block is the identity. One lemma for each operation and each frame. -/

namespace Sys2Proof.Machine

variable (s : State)

/-! ## offDrive -/

/-- The state without the Valve Drive and what sets out from it. -/
def offDrive (s : State) : State := { s with valves := {}, signals := [] }

/-- An update of those fields is not seen. -/
@[simp] theorem offDrive_update (valves : ValveDrive) (signals : List Signal) :
    offDrive { s with valves := valves, signals := signals } = offDrive s := rfl

@[simp] theorem push_offDrive (g : Signal) : offDrive (push g s) = offDrive s := by
  unfold push; try dsimp only
  simp
@[simp] theorem setValve_offDrive (v : Valve) (r : ValveRec) : offDrive (setValve v r s) = offDrive s := by cases v <;> rfl
@[simp] theorem setSense_offDrive (v : Valve) (r : Reading) : offDrive (setSense v r s) = offDrive s := by
  unfold setSense; try dsimp only
  simp
@[simp] theorem setWaiting_offDrive (v : Valve) (r : Option MoveReq) : offDrive (setWaiting v r s) = offDrive s := by
  unfold setWaiting; try dsimp only
  simp
@[simp] theorem setGrant_offDrive (g : Option Grant) : offDrive (setGrant g s) = offDrive s := by
  unfold setGrant; try dsimp only
  simp
@[simp] theorem setStatus_offDrive (v : Valve) (x : ValveStatus) : offDrive (setStatus v x s) = offDrive s := by
  unfold setStatus; try dsimp only
  (repeat' split) <;> simp
@[simp] theorem answerWaiting_offDrive (v : Valve) (x : Answer) : offDrive (answerWaiting v x s) = offDrive s := by
  unfold answerWaiting; try dsimp only
  (repeat' split) <;> simp
@[simp] theorem meetMove_offDrive (v : Valve) (r : MoveReq) (g : Grant) : offDrive (meetMove v r g s) = offDrive s := by
  unfold meetMove; try dsimp only
  (repeat' split) <;> simp
@[simp] theorem postRequest_offDrive (v : Valve) (n : Nat) (c : MoveClass) (w : Requester) : offDrive (postRequest v n c w s) = offDrive s := by
  unfold postRequest; try dsimp only
  (repeat' split) <;> simp
@[simp] theorem startDrive_offDrive (g : Grant) : offDrive (startDrive g s) = offDrive s := by
  unfold startDrive; try dsimp only
  (repeat' split) <;> simp
@[simp] theorem recheckMove_offDrive (g : Grant) : offDrive (recheckMove g s) = offDrive s := by
  unfold recheckMove; try dsimp only
  (repeat' split) <;> simp
@[simp] theorem takeGrant_offDrive (v : Valve) (r : MoveReq) : offDrive (takeGrant v r s) = offDrive s := by
  unfold takeGrant; try dsimp only
  (repeat' split) <;> simp
theorem arbitrateFrom_offDrive (n : Nat) : offDrive (arbitrateFrom n s) = offDrive s := by
  induction n generalizing s with
  | zero => rfl
  | succ n ih => unfold arbitrateFrom; (repeat' split) <;> simp [ih]
@[simp] theorem arbitrate_offDrive : offDrive (arbitrate s) = offDrive s := arbitrateFrom_offDrive s 4
@[simp] theorem completeMove_offDrive (g : Grant) : offDrive (completeMove g s) = offDrive s := by
  unfold completeMove; try dsimp only
  (repeat' split) <;> simp

/-! ## offQueue -/

/-- The state without the Drain Queue, the re-queue holds, and what sets out from them. -/
def offQueue (s : State) : State := { s with queue := {}, run.holds := [], signals := [], writeDue := false }

/-- An update of those fields is not seen. -/
@[simp] theorem offQueue_update (queue : DrainQueue) (signals : List Signal) (writeDue : Bool) :
    offQueue { s with queue := queue, signals := signals, writeDue := writeDue } = offQueue s := rfl

/-- An update of those fields is not seen. -/
@[simp] theorem offQueue_update_holds (queue : DrainQueue) (signals : List Signal) (writeDue : Bool) (holds : List RequeueHold) :
    offQueue { s with queue := queue, signals := signals, writeDue := writeDue, run := { s.run with holds := holds } } = offQueue s := rfl

@[simp] theorem push_offQueue (g : Signal) : offQueue (push g s) = offQueue s := by
  unfold push; try dsimp only
  simp
@[simp] theorem writeTrigger_offQueue : offQueue (writeTrigger s) = offQueue s := by
  unfold writeTrigger; try dsimp only
  simp
@[simp] theorem setDeferral_offQueue (u : HeadUnit) (d : Option Nat) : offQueue (setDeferral u d s) = offQueue s := by cases u <;> rfl
@[simp] theorem changeQueue_offQueue (l : List Entry) : offQueue (changeQueue l s) = offQueue s := by
  unfold changeQueue; try dsimp only
  simp
@[simp] theorem joinQueue_offQueue (u : HeadUnit) (c : Cls) (r : Reason) (d : Nat) : offQueue (joinQueue u c r d s) = offQueue s := by
  unfold joinQueue; try dsimp only
  simp
@[simp] theorem mergeEntry_offQueue (e : Entry) (w : Asker) (c : Cls) : offQueue (mergeEntry e w c s) = offQueue s := by
  unfold mergeEntry; try dsimp only
  (repeat' split) <;> simp
@[simp] theorem raiseHold_offQueue (u : HeadUnit) (c : Cls) : offQueue (raiseHold u c s) = offQueue s := by
  unfold raiseHold; try dsimp only
  simp
@[simp] theorem queueRequest_offQueue (w : Asker) (u : HeadUnit) (c : Cls) (r : Reason) (d : Nat) : offQueue (queueRequest w u c r d s) = offQueue s := by
  unfold queueRequest; try dsimp only
  (repeat' split) <;> simp
@[simp] theorem removeEntry_offQueue (u : HeadUnit) : offQueue (removeEntry u s) = offQueue s := by
  unfold removeEntry; try dsimp only
  simp
@[simp] theorem ageClasses_offQueue : offQueue (ageClasses s) = offQueue s := by
  unfold ageClasses; try dsimp only
  (repeat' split) <;> simp
@[simp] theorem queueSecond_offQueue : offQueue (queueSecond s) = offQueue s := by
  unfold queueSecond; try dsimp only
  simp
@[simp] theorem addHold_offQueue (h : RequeueHold) : offQueue (addHold h s) = offQueue s := by
  unfold addHold; try dsimp only
  simp
@[simp] theorem deferCancelled_offQueue (u : HeadUnit) (r : AbortReason) : offQueue (deferCancelled u r s) = offQueue s := by
  unfold deferCancelled; try dsimp only
  (repeat' split) <;> simp
@[simp] theorem requeue_offQueue (c : RunCtx) (r : AbortReason) : offQueue (requeue c r s) = offQueue s := by
  unfold requeue; try dsimp only
  (repeat' split) <;> simp
theorem foldHolds_offQueue (l : List RequeueHold) :
    offQueue (l.foldl (fun st h => queueRequest .run h.unit h.cls .resumed 0 st) s) = offQueue s := by
  induction l generalizing s with
  | nil => rfl
  | cons h l ih => simp [ih]
@[simp] theorem releaseHolds_offQueue (p : RequeueHold → Bool) : offQueue (releaseHolds p s) = offQueue s := by
  unfold releaseHolds; simp [foldHolds_offQueue]

/-! ## offBrine -/

/-- The state without the Brine Monitor and the events it raises. -/
def offBrine (s : State) : State := { s with brine := {}, link.events := [] }

/-- An update of those fields is not seen. -/
@[simp] theorem offBrine_update (brine : BrineMonitor) :
    offBrine { s with brine := brine } = offBrine s := rfl

/-- An update of those fields is not seen. -/
@[simp] theorem offBrine_update_events (brine : BrineMonitor) (events : List PendingEvent) :
    offBrine { s with brine := brine, link := { s.link with events := events } } = offBrine s := rfl

@[simp] theorem raiseEvent_offBrine (e : Event) : offBrine (raiseEvent e s) = offBrine s := by
  unfold raiseEvent; try dsimp only
  simp
@[simp] theorem clearCountersTo_offBrine (l : Option Nat) : offBrine (clearCountersTo l s) = offBrine s := by
  unfold clearCountersTo; try dsimp only
  simp
@[simp] theorem clearCounters_offBrine : offBrine (clearCounters s) = offBrine s := by
  unfold clearCounters; try dsimp only
  simp
@[simp] theorem rebaseline_offBrine (n : Nat) : offBrine (rebaseline n s) = offBrine s := by
  unfold rebaseline; try dsimp only
  simp
@[simp] theorem raiseReminder_offBrine : offBrine (raiseReminder s) = offBrine s := by
  unfold raiseReminder; try dsimp only
  simp
@[simp] theorem evalStage_offBrine : offBrine (evalStage s) = offBrine s := by
  unfold evalStage; try dsimp only
  (repeat' split) <;> simp
@[simp] theorem reminderExpiry_offBrine : offBrine (reminderExpiry s) = offBrine s := by
  unfold reminderExpiry; try dsimp only
  (repeat' split) <;> simp
@[simp] theorem snoozeExpiry_offBrine : offBrine (snoozeExpiry s) = offBrine s := by
  unfold snoozeExpiry; try dsimp only
  simp
@[simp] theorem brineSecond_offBrine : offBrine (brineSecond s) = offBrine s := by
  unfold brineSecond; try dsimp only
  (repeat' split) <;> simp
@[simp] theorem judgeLevel_offBrine (n : Nat) : offBrine (judgeLevel n s) = offBrine s := by
  unfold judgeLevel; try dsimp only
  (repeat' split) <;> simp
@[simp] theorem acceptLevel_offBrine (n : Nat) : offBrine (acceptLevel n s) = offBrine s := by
  unfold acceptLevel; try dsimp only
  simp
@[simp] theorem levelReading_offBrine : offBrine (levelReading s) = offBrine s := by
  unfold levelReading; try dsimp only
  (repeat' split) <;> simp
@[simp] theorem refillEnd_offBrine (n : Nat) : offBrine (refillEnd n s) = offBrine s := by
  unfold refillEnd; try dsimp only
  simp
@[simp] theorem lowerModel_offBrine (n : Nat) : offBrine (lowerModel n s) = offBrine s := by
  unfold lowerModel; try dsimp only
  simp
@[simp] theorem addSalt_offBrine (n : Nat) : offBrine (addSalt n s) = offBrine s := by
  unfold addSalt; try dsimp only
  simp
@[simp] theorem bridgeTest_offBrine : offBrine (bridgeTest s) = offBrine s := by
  unfold bridgeTest; try dsimp only
  (repeat' split) <;> simp
@[simp] theorem brineCompletion_offBrine (n : Nat) : offBrine (brineCompletion n s) = offBrine s := by
  unfold brineCompletion; try dsimp only
  simp
@[simp] theorem brineAbort_offBrine (a b c : Nat) : offBrine (brineAbort a b c s) = offBrine s := by
  unfold brineAbort; try dsimp only
  simp
@[simp] theorem closeSaltDay_offBrine : offBrine (closeSaltDay s) = offBrine s := by
  unfold closeSaltDay; try dsimp only
  simp
@[simp] theorem geometryChanged_offBrine : offBrine (geometryChanged s) = offBrine s := by
  unfold geometryChanged; try dsimp only
  simp

/-! ## offLoop -/

/-- The state without the Loop Master. -/
def offLoop (s : State) : State := { s with loop := {} }

/-- An update of those fields is not seen. -/
@[simp] theorem offLoop_update (loop : LoopMaster) :
    offLoop { s with loop := loop } = offLoop s := rfl

@[simp] theorem setPod_offLoop (p : Pod) : offLoop (setPod p s) = offLoop s := by
  unfold setPod; try dsimp only
  simp
@[simp] theorem setFlight_offLoop (x : Option Transaction) : offLoop (setFlight x s) = offLoop s := by
  unfold setFlight; try dsimp only
  simp
@[simp] theorem sendPoll_offLoop (a : Nat) : offLoop (sendPoll a s) = offLoop s := by
  unfold sendPoll; try dsimp only
  simp
@[simp] theorem sendRelease_offLoop (a : Offer) (l : List Offer) : offLoop (sendRelease a l s) = offLoop s := by
  unfold sendRelease; try dsimp only
  simp
@[simp] theorem endCycle_offLoop : offLoop (endCycle s) = offLoop s := by
  unfold endCycle; try dsimp only
  simp
@[simp] theorem tailOrEnd_offLoop : offLoop (tailOrEnd s) = offLoop s := by
  unfold tailOrEnd; try dsimp only
  (repeat' split) <;> simp
@[simp] theorem closingTransaction_offLoop : offLoop (closingTransaction s) = offLoop s := by
  unfold closingTransaction; try dsimp only
  (repeat' split) <;> simp
@[simp] theorem releaseTransaction_offLoop : offLoop (releaseTransaction s) = offLoop s := by
  unfold releaseTransaction; try dsimp only
  (repeat' split) <;> simp
@[simp] theorem chooseTransaction_offLoop : offLoop (chooseTransaction s) = offLoop s := by
  unfold chooseTransaction; try dsimp only
  (repeat' split) <;> simp
@[simp] theorem beginCycle_offLoop : offLoop (beginCycle s) = offLoop s := by
  unfold beginCycle; try dsimp only
  simp
@[simp] theorem stopCycle_offLoop : offLoop (stopCycle s) = offLoop s := by
  unfold stopCycle; try dsimp only
  (repeat' split) <;> simp
@[simp] theorem nextTransaction_offLoop : offLoop (nextTransaction s) = offLoop s := by
  unfold nextTransaction; try dsimp only
  (repeat' split) <;> simp
@[simp] theorem pollExpiry_offLoop : offLoop (pollExpiry s) = offLoop s := by
  unfold pollExpiry; try dsimp only
  (repeat' split) <;> simp
@[simp] theorem recoveryDiscoverEnd_offLoop (a : Option Nat) : offLoop (recoveryDiscoverEnd a s) = offLoop s := by
  unfold recoveryDiscoverEnd; try dsimp only
  (repeat' split) <;> simp
@[simp] theorem releaseAssignEnd_offLoop (n : Offer) (c : Option Nat) : offLoop (releaseAssignEnd n c s) = offLoop s := by
  unfold releaseAssignEnd; try dsimp only
  simp
@[simp] theorem loopDormant_offLoop : offLoop (loopDormant s) = offLoop s := rfl
@[simp] theorem loopRegime_offLoop (x y : Regime) : offLoop (loopRegime x y s) = offLoop s := by
  unfold loopRegime; try dsimp only
  (repeat' split) <;> simp

/-! ## offBed -/

/-- The state without Bed Accounting and what its moves, its entries and its events touch. -/
def offBed (s : State) : State := { s with bed := {}, valves := {}, queue := {}, run.holds := [], link.events := [], signals := [], writeDue := false }

/-- An update of those fields is not seen. -/
@[simp] theorem offBed_update (bed : BedAccounting) (valves : ValveDrive) (queue : DrainQueue) (signals : List Signal) (writeDue : Bool) :
    offBed { s with bed := bed, valves := valves, queue := queue, signals := signals, writeDue := writeDue } = offBed s := rfl

/-- An update of those fields is not seen. -/
@[simp] theorem offBed_update_holds (bed : BedAccounting) (valves : ValveDrive) (queue : DrainQueue) (signals : List Signal) (writeDue : Bool) (holds : List RequeueHold) :
    offBed { s with bed := bed, valves := valves, queue := queue, signals := signals, writeDue := writeDue, run := { s.run with holds := holds } } = offBed s := rfl

/-- An update of those fields is not seen. -/
@[simp] theorem offBed_update_events (bed : BedAccounting) (valves : ValveDrive) (queue : DrainQueue) (signals : List Signal) (writeDue : Bool) (events : List PendingEvent) :
    offBed { s with bed := bed, valves := valves, queue := queue, signals := signals, writeDue := writeDue, link := { s.link with events := events } } = offBed s := rfl

/-- An update of those fields is not seen. -/
@[simp] theorem offBed_update_holds_events (bed : BedAccounting) (valves : ValveDrive) (queue : DrainQueue) (signals : List Signal) (writeDue : Bool) (holds : List RequeueHold) (events : List PendingEvent) :
    offBed { s with bed := bed, valves := valves, queue := queue, signals := signals, writeDue := writeDue, run := { s.run with holds := holds }, link := { s.link with events := events } } = offBed s := rfl

@[simp] theorem raiseEvent_offBed (e : Event) : offBed (raiseEvent e s) = offBed s := by
  unfold raiseEvent; try dsimp only
  simp
@[simp] theorem push_offBed (g : Signal) : offBed (push g s) = offBed s := by
  unfold push; try dsimp only
  simp
@[simp] theorem writeTrigger_offBed : offBed (writeTrigger s) = offBed s := by
  unfold writeTrigger; try dsimp only
  simp
@[simp] theorem setTank_offBed (t : Tank) (r : TankRec) : offBed (setTank t r s) = offBed s := by cases t <;> rfl
@[simp] theorem setValve_offBed (v : Valve) (r : ValveRec) : offBed (setValve v r s) = offBed s := by cases v <;> rfl
@[simp] theorem setSense_offBed (v : Valve) (r : Reading) : offBed (setSense v r s) = offBed s := by
  unfold setSense; try dsimp only
  simp
@[simp] theorem setWaiting_offBed (v : Valve) (r : Option MoveReq) : offBed (setWaiting v r s) = offBed s := by
  unfold setWaiting; try dsimp only
  simp
@[simp] theorem setGrant_offBed (g : Option Grant) : offBed (setGrant g s) = offBed s := by
  unfold setGrant; try dsimp only
  simp
@[simp] theorem setStatus_offBed (v : Valve) (x : ValveStatus) : offBed (setStatus v x s) = offBed s := by
  unfold setStatus; try dsimp only
  (repeat' split) <;> simp
@[simp] theorem answerWaiting_offBed (v : Valve) (x : Answer) : offBed (answerWaiting v x s) = offBed s := by
  unfold answerWaiting; try dsimp only
  (repeat' split) <;> simp
@[simp] theorem meetMove_offBed (v : Valve) (r : MoveReq) (g : Grant) : offBed (meetMove v r g s) = offBed s := by
  unfold meetMove; try dsimp only
  (repeat' split) <;> simp
@[simp] theorem postRequest_offBed (v : Valve) (n : Nat) (c : MoveClass) (w : Requester) : offBed (postRequest v n c w s) = offBed s := by
  unfold postRequest; try dsimp only
  (repeat' split) <;> simp
@[simp] theorem setDeferral_offBed (u : HeadUnit) (d : Option Nat) : offBed (setDeferral u d s) = offBed s := by cases u <;> rfl
@[simp] theorem changeQueue_offBed (l : List Entry) : offBed (changeQueue l s) = offBed s := by
  unfold changeQueue; try dsimp only
  simp
@[simp] theorem joinQueue_offBed (u : HeadUnit) (c : Cls) (r : Reason) (d : Nat) : offBed (joinQueue u c r d s) = offBed s := by
  unfold joinQueue; try dsimp only
  simp
@[simp] theorem mergeEntry_offBed (e : Entry) (w : Asker) (c : Cls) : offBed (mergeEntry e w c s) = offBed s := by
  unfold mergeEntry; try dsimp only
  (repeat' split) <;> simp
@[simp] theorem raiseHold_offBed (u : HeadUnit) (c : Cls) : offBed (raiseHold u c s) = offBed s := by
  unfold raiseHold; try dsimp only
  simp
@[simp] theorem queueRequest_offBed (w : Asker) (u : HeadUnit) (c : Cls) (r : Reason) (d : Nat) : offBed (queueRequest w u c r d s) = offBed s := by
  unfold queueRequest; try dsimp only
  (repeat' split) <;> simp
@[simp] theorem beginHardWater_offBed (b : Bool) : offBed (beginHardWater b s) = offBed s := by
  unfold beginHardWater; try dsimp only
  (repeat' split) <;> simp
@[simp] theorem requestChangeover_offBed (c : Option Cls) : offBed (requestChangeover c s) = offBed s := by
  unfold requestChangeover; try dsimp only
  simp
@[simp] theorem changeoverTest_offBed : offBed (changeoverTest s) = offBed s := by
  unfold changeoverTest; try dsimp only
  (repeat' split) <;> simp
@[simp] theorem hardWaterTest_offBed : offBed (hardWaterTest s) = offBed s := by
  unfold hardWaterTest; try dsimp only
  (repeat' split) <;> simp
@[simp] theorem askChangeover_offBed (c : Cls) : offBed (askChangeover c s) = offBed s := by
  unfold askChangeover; try dsimp only
  (repeat' split) <;> simp
@[simp] theorem placeMetered_offBed : offBed (placeMetered s) = offBed s := by
  unfold placeMetered; try dsimp only
  (repeat' split) <;> simp
@[simp] theorem urgencyChanged_offBed : offBed (urgencyChanged s) = offBed s := by
  unfold urgencyChanged; try dsimp only
  simp
@[simp] theorem evaluateUrgency_offBed : offBed (evaluateUrgency s) = offBed s := by
  unfold evaluateUrgency; try dsimp only
  (repeat' split) <;> simp
@[simp] theorem recomputeReserve_offBed : offBed (recomputeReserve s) = offBed s := by
  unfold recomputeReserve; try dsimp only
  simp
@[simp] theorem chargeLoad_offBed (n : Nat) : offBed (chargeLoad n s) = offBed s := by
  unfold chargeLoad; try dsimp only
  (repeat' split) <;> simp
@[simp] theorem bedSample_offBed (x : Sample) : offBed (bedSample x s) = offBed s := by
  unfold bedSample; try dsimp only
  simp
@[simp] theorem clampTank_offBed (t : Tank) : offBed (clampTank t s) = offBed s := by
  unfold clampTank; try dsimp only
  simp
@[simp] theorem passRoles_offBed : offBed (passRoles s) = offBed s := by
  unfold passRoles; try dsimp only
  simp
@[simp] theorem dropChangeover_offBed : offBed (dropChangeover s) = offBed s := by
  unfold dropChangeover; try dsimp only
  simp
@[simp] theorem completeChangeover_offBed : offBed (completeChangeover s) = offBed s := by
  unfold completeChangeover; try dsimp only
  (repeat' split) <;> simp
@[simp] theorem bedAnswer_offBed (r : MoveReq) (a : Answer) : offBed (bedAnswer r a s) = offBed s := by
  unfold bedAnswer; try dsimp only
  (repeat' split) <;> simp
@[simp] theorem probeFault_offBed (t : Tank) : offBed (probeFault t s) = offBed s := by
  unfold probeFault; try dsimp only
  simp
@[simp] theorem probeCorrection_offBed (t : Tank) : offBed (probeCorrection t s) = offBed s := by
  unfold probeCorrection; try dsimp only
  (repeat' split) <;> simp
@[simp] theorem probeTrip_offBed (t : Tank) : offBed (probeTrip t s) = offBed s := by
  unfold probeTrip; try dsimp only
  (repeat' split) <;> simp
@[simp] theorem probeReading_offBed (t : Tank) : offBed (probeReading t s) = offBed s := by
  unfold probeReading; try dsimp only
  (repeat' split) <;> simp
@[simp] theorem bedRunDone_offBed (t : Tank) (p n : Nat) : offBed (bedRunDone t p n s) = offBed s := by
  unfold bedRunDone; try dsimp only
  (repeat' split) <;> simp
@[simp] theorem bedAbortLate_offBed (t : Tank) (r : AbortReason) (p n : Nat) : offBed (bedAbortLate t r p n s) = offBed s := by
  unfold bedAbortLate; try dsimp only
  (repeat' split) <;> simp
@[simp] theorem bedAbortEarly_offBed (t : Tank) (r : AbortReason) (n : Nat) : offBed (bedAbortEarly t r n s) = offBed s := by
  unfold bedAbortEarly; try dsimp only
  simp
@[simp] theorem bedRunAborted_offBed (t : Tank) (r : AbortReason) (b : Bool) (p n : Nat) : offBed (bedRunAborted t r b p n s) = offBed s := by
  unfold bedRunAborted; try dsimp only
  (repeat' split) <;> simp

/-! ## offLeak -/

/-- The state without the Leak Monitor and what its moves and its events touch. -/
def offLeak (s : State) : State := { s with leak := {}, valves := {}, link.events := [], signals := [], writeDue := false }

/-- An update of those fields is not seen. -/
@[simp] theorem offLeak_update (leak : LeakMonitor) (valves : ValveDrive) (signals : List Signal) (writeDue : Bool) :
    offLeak { s with leak := leak, valves := valves, signals := signals, writeDue := writeDue } = offLeak s := rfl

/-- An update of those fields is not seen. -/
@[simp] theorem offLeak_update_events (leak : LeakMonitor) (valves : ValveDrive) (signals : List Signal) (writeDue : Bool) (events : List PendingEvent) :
    offLeak { s with leak := leak, valves := valves, signals := signals, writeDue := writeDue, link := { s.link with events := events } } = offLeak s := rfl

@[simp] theorem raiseEvent_offLeak (e : Event) : offLeak (raiseEvent e s) = offLeak s := by
  unfold raiseEvent; try dsimp only
  simp
@[simp] theorem push_offLeak (g : Signal) : offLeak (push g s) = offLeak s := by
  unfold push; try dsimp only
  simp
@[simp] theorem writeTrigger_offLeak : offLeak (writeTrigger s) = offLeak s := by
  unfold writeTrigger; try dsimp only
  simp
@[simp] theorem setValve_offLeak (v : Valve) (r : ValveRec) : offLeak (setValve v r s) = offLeak s := by cases v <;> rfl
@[simp] theorem setSense_offLeak (v : Valve) (r : Reading) : offLeak (setSense v r s) = offLeak s := by
  unfold setSense; try dsimp only
  simp
@[simp] theorem setWaiting_offLeak (v : Valve) (r : Option MoveReq) : offLeak (setWaiting v r s) = offLeak s := by
  unfold setWaiting; try dsimp only
  simp
@[simp] theorem setGrant_offLeak (g : Option Grant) : offLeak (setGrant g s) = offLeak s := by
  unfold setGrant; try dsimp only
  simp
@[simp] theorem setStatus_offLeak (v : Valve) (x : ValveStatus) : offLeak (setStatus v x s) = offLeak s := by
  unfold setStatus; try dsimp only
  (repeat' split) <;> simp
@[simp] theorem answerWaiting_offLeak (v : Valve) (x : Answer) : offLeak (answerWaiting v x s) = offLeak s := by
  unfold answerWaiting; try dsimp only
  (repeat' split) <;> simp
@[simp] theorem meetMove_offLeak (v : Valve) (r : MoveReq) (g : Grant) : offLeak (meetMove v r g s) = offLeak s := by
  unfold meetMove; try dsimp only
  (repeat' split) <;> simp
@[simp] theorem postRequest_offLeak (v : Valve) (n : Nat) (c : MoveClass) (w : Requester) : offLeak (postRequest v n c w s) = offLeak s := by
  unfold postRequest; try dsimp only
  (repeat' split) <;> simp
@[simp] theorem setLeakState_offLeak (x : LeakState) : offLeak (setLeakState x s) = offLeak s := by
  unfold setLeakState; try dsimp only
  (repeat' split) <;> simp
@[simp] theorem changeReasons_offLeak (c : CloseSet) : offLeak (changeReasons c s) = offLeak s := by
  unfold changeReasons; try dsimp only
  (repeat' split) <;> simp
@[simp] theorem isolate_offLeak : offLeak (isolate s) = offLeak s := by
  unfold isolate; try dsimp only
  simp
@[simp] theorem trip_offLeak (c : LeakCause) (p : Option Nat) : offLeak (trip c p s) = offLeak s := by
  unfold trip; try dsimp only
  (repeat' split) <;> simp
@[simp] theorem podWetReport_offLeak (n : Nat) : offLeak (podWetReport n s) = offLeak s := by
  unfold podWetReport; try dsimp only
  (repeat' split) <;> simp
@[simp] theorem rechooseClass_offLeak : offLeak (rechooseClass s) = offLeak s := by
  unfold rechooseClass; try dsimp only
  (repeat' split) <;> simp
@[simp] theorem fixtureMatch_offLeak (e : Episode) : offLeak (fixtureMatch e s) = offLeak s := by
  unfold fixtureMatch; try dsimp only
  simp
@[simp] theorem endEpisode_offLeak : offLeak (endEpisode s) = offLeak s := by
  unfold endEpisode; try dsimp only
  (repeat' split) <;> simp
@[simp] theorem countEpisode_offLeak (e : Episode) (x : Sample) : offLeak (countEpisode e x s) = offLeak s := by
  unfold countEpisode; try dsimp only
  (repeat' split) <;> simp
@[simp] theorem episodeSample_offLeak (x : Sample) : offLeak (episodeSample x s) = offLeak s := by
  unfold episodeSample; try dsimp only
  (repeat' split) <;> simp
@[simp] theorem warn_offLeak (l : LimitReached) (e : Episode) : offLeak (warn l e s) = offLeak s := by
  unfold warn; try dsimp only
  (repeat' split) <;> simp
@[simp] theorem limitTests_offLeak : offLeak (limitTests s) = offLeak s := by
  unfold limitTests; try dsimp only
  (repeat' split) <;> simp
@[simp] theorem burstTest_offLeak (x : Sample) : offLeak (burstTest x s) = offLeak s := by
  unfold burstTest; try dsimp only
  (repeat' split) <;> simp
@[simp] theorem burstSample_offLeak (x : Sample) : offLeak (burstSample x s) = offLeak s := by
  unfold burstSample; try dsimp only
  (repeat' split) <;> simp
@[simp] theorem endProbation_offLeak : offLeak (endProbation s) = offLeak s := by
  unfold endProbation; try dsimp only
  simp
@[simp] theorem probationSample_offLeak (x : Sample) : offLeak (probationSample x s) = offLeak s := by
  unfold probationSample; try dsimp only
  (repeat' split) <;> simp
@[simp] theorem raisePassing_offLeak : offLeak (raisePassing s) = offLeak s := by
  unfold raisePassing; try dsimp only
  simp
@[simp] theorem countPassing_offLeak (n : Nat) : offLeak (countPassing n s) = offLeak s := by
  unfold countPassing; try dsimp only
  (repeat' split) <;> simp
@[simp] theorem passingSample_offLeak (x : Sample) : offLeak (passingSample x s) = offLeak s := by
  unfold passingSample; try dsimp only
  (repeat' split) <;> simp
@[simp] theorem raiseDrip_offLeak : offLeak (raiseDrip s) = offLeak s := by
  unfold raiseDrip; try dsimp only
  simp
@[simp] theorem dripSample_offLeak (x : Sample) : offLeak (dripSample x s) = offLeak s := by
  unfold dripSample; try dsimp only
  (repeat' split) <;> simp
@[simp] theorem dripGapChanged_offLeak : offLeak (dripGapChanged s) = offLeak s := by
  unfold dripGapChanged; try dsimp only
  simp
@[simp] theorem judgeFlow_offLeak (x : Sample) : offLeak (judgeFlow x s) = offLeak s := by
  unfold judgeFlow; try dsimp only
  (repeat' split) <;> simp
@[simp] theorem leakSample_offLeak (x : Sample) : offLeak (leakSample x s) = offLeak s := by
  unfold leakSample; try dsimp only
  simp
@[simp] theorem leakShutReport_offLeak (x y : ValveStatus) : offLeak (leakShutReport x y s) = offLeak s := by
  unfold leakShutReport; try dsimp only
  (repeat' split) <;> simp

end Sys2Proof.Machine
end

