-- ==== Sys2Proof/Laws/Link.lean ====
section
/-! SUPPORT. What the receiver can do with bytes, said once (R182, R183), and that the fields of a message are read as
they were written (R195, R196). -/

namespace Sys2Proof.Machine

/-! ## Bytes one after another (R182) -/

/-- Bytes are taken as they come: a run of them is its front and then its rest. -/
theorem receive_append (first rest : List Byte) (s : State) :
    receive (first ++ rest) s = receive rest (receive first s) := List.foldl_append

/-- A part that takes no bytes is changed by none. -/
theorem receive_deaf {s : State} (h : linkDeaf s = true) (bytes : List Byte) : receive bytes s = s := by
  induction bytes with
  | nil => rfl
  | cons b bs ih => simpa [receive, receiveByte, h] using ih

/-- A message changes nothing in a part that takes no bytes. -/
theorem message_deaf {s : State} (h : linkDeaf s = true) (m : Instr) : message m s = s := by
  cases e : Link.requestOf m <;> simp [message, e, h]

/-- While the bytes so far are no frame yet, a byte joins them. -/
theorem receiveByte_joins {s : State} {b : Byte} (h : linkDeaf s = false) (c : s.link.rx = .collecting)
    (j : Link.judge (s.link.collected ++ [b]) = .notAFrame) :
    receiveByte s b = { s with link.collected := s.link.collected ++ [b] } := by
  simp [receiveByte, h, c, judgeCollected, j]

/-! ## Judging (R182, R183) -/

/-- A frame that has not come to its end is none yet. -/
theorem judge_short {n : Byte} {rest : List Byte} (h : n.toNat ≤ 96) (l : rest.length < n.toNat + 4) :
    Link.judge (n :: rest) = .notAFrame := by
  have h1 : ¬ Config.maxPayload < n.toNat := Nat.not_lt.mpr h
  simp [Link.judge, h1, Nat.ne_of_lt l]

/-- A frame that has come to its end is judged by its CRC. -/
theorem judge_whole {n : Byte} {rest : List Byte} (h : n.toNat ≤ 96) (l : rest.length = n.toNat + 4) :
    Link.judge (n :: rest) =
      if Link.crcBytes (n :: rest.take (n.toNat + 2)) = rest.drop (n.toNat + 2) then .accepted else .badCrc := by
  have h1 : ¬ Config.maxPayload < n.toNat := Nat.not_lt.mpr h
  simp [Link.judge, h1, l]

/-- A part that collects a frame goes on to collect it up to its last byte. -/
theorem receive_goes_on (n : Byte) (front rest : List Byte) {s : State} (h : linkDeaf s = false)
    (c : s.link.rx = .collecting) (e : s.link.collected = n :: front) (b : n.toNat ≤ 96)
    (l : front.length + rest.length < n.toNat + 4) :
    receive rest s = { s with link.collected := n :: (front ++ rest) } := by
  induction rest generalizing front s with
  | nil => simp [receive, ← e]
  | cons x rest ih =>
    simp only [List.length_cons] at l
    have j : Link.judge (s.link.collected ++ [x]) = .notAFrame := by
      rw [e, List.cons_append]
      exact judge_short b (by simp; omega)
    have r : receive (x :: rest) s = receive rest (receiveByte s x) := rfl
    have t := ih (front ++ [x]) (s := { s with link.collected := s.link.collected ++ [x] }) h c
      (by simp [e]) (by simp; omega)
    rw [r, receiveByte_joins h c j, t]
    simp

/-- A part that has taken a sync byte collects a frame up to its last byte. -/
theorem receive_collects {n : Byte} (rest : List Byte) {s : State} (h : linkDeaf s = false)
    (c : s.link.rx = .collecting) (e : s.link.collected = []) (b : n.toNat ≤ 96) (l : rest.length < n.toNat + 4) :
    receive (n :: rest) s = { s with link.collected := n :: rest } := by
  have j : Link.judge (s.link.collected ++ [n]) = .notAFrame := by
    rw [e]
    exact judge_short b (by simp)
  have r : receive (n :: rest) s = receive rest (receiveByte s n) := rfl
  have t := receive_goes_on n [] rest (s := { s with link.collected := s.link.collected ++ [n] }) h c
    (by simp [e]) b (by simpa using l)
  rw [r, receiveByte_joins h c j, t]
  rfl

end Sys2Proof.Machine

namespace Sys2Proof.Link

/-! ## Fields (R195, R196) -/

/-- A number of two bytes is read as it was written. -/
theorem join_split16 (x : BitVec 16) : x.extractLsb' 8 8 ++ x.extractLsb' 0 8 = x := by
  rw [BitVec.extractLsb'_append_extractLsb'_eq_extractLsb' (by rfl)]
  exact BitVec.extractLsb'_eq_self

/-- A number of four bytes is read as it was written. -/
theorem join_split32 (x : BitVec 32) :
    x.extractLsb' 24 8 ++ x.extractLsb' 16 8 ++ x.extractLsb' 8 8 ++ x.extractLsb' 0 8 = x := by
  rw [BitVec.extractLsb'_append_extractLsb'_eq_extractLsb' (by rfl),
    BitVec.extractLsb'_append_extractLsb'_eq_extractLsb' (by rfl),
    BitVec.extractLsb'_append_extractLsb'_eq_extractLsb' (by rfl)]
  exact BitVec.extractLsb'_eq_self

/-- The flags of a run of bytes, byte by byte. -/
theorem joinFlags_getLsbD {w : Nat} (m : BitVec w) (n k i : Nat) (h : i < w) :
    (joinFlags w ((List.range' k n).map fun j => m.extractLsb' (8 * j) 8)).getLsbD i =
      (decide (i < 8 * n) && m.getLsbD (8 * k + i)) := by
  induction n generalizing k i with
  | zero => simp [joinFlags]
  | succ n ih =>
    rw [List.range'_succ, List.map_cons, joinFlags, BitVec.getLsbD_or, BitVec.getLsbD_setWidth,
      BitVec.getLsbD_extractLsb', BitVec.getLsbD_shiftLeft]
    by_cases c : i < 8
    · simp [h, c]; omega
    · have l : i - 8 < w := by omega
      have e : 8 * (k + 1) + (i - 8) = 8 * k + i := by omega
      rw [ih (k + 1) (i - 8) l, e]
      have d : decide (i - 8 < 8 * n) = decide (i < 8 * (n + 1)) := by simp; omega
      simp [h, c, d]

/-- A table of flags is read as it was written (R196). -/
theorem join_splitFlags {w : Nat} (bytes : Nat) (m : BitVec w) (h : w ≤ 8 * bytes) :
    joinFlags w (splitFlags bytes m) = m := by
  apply BitVec.eq_of_getLsbD_eq
  intro i hi
  rw [splitFlags, List.range_eq_range', joinFlags_getLsbD m bytes 0 i hi]
  have : i < 8 * bytes := by omega
  simp [this]

end Sys2Proof.Link
end

