-- ==== Sys2Proof/Tests/Slice0.lean ====
section
/-! SUPPORT. The model's own tests: ill-formed commands are refused by the checks, the manual's worked examples come out
as it gives them, and every statement's hypotheses are met together by a state written here. Expected values are the
manual's; each test names their source. -/

namespace Sys2Proof.Tests

open Sys2Proof Sys2Proof.Machine

/-! ## States for the tests -/

/-- The state a command leaves. -/
def after (c : Instr) (s : State) : State :=
  match exec c s with
  | .next t => t
  | .fault _ => s
  | .refused _ => s

/-- A part at rest under MAINS: the valves AT their service positions, nothing queued, nothing pending. -/
def calm : State :=
  { supply := { regime := .mains, confirm := 5 }
    valves :=
      { shut := { status := .atPos 0, lastDir := some .reverse, sense := .pos 0 }
        flt := { status := .atPos 0, lastDir := some .reverse, sense := .pos 0 }
        soft := { status := .atPos 0, lastDir := some .reverse, sense := .pos 0 } }
    filter := { state := .inService }
    queue := { keptRate := some 0, still := 300 } }

/-- Tank B in service and tank A with this role. -/
def bServes (roleA : Role) (s : State) : State :=
  { s with
    bed.tankA := { s.bed.tankA with role := roleA, probeArmed := false }
    bed.tankB := { s.bed.tankB with role := .inService, probeArmed := true } }

/-- A run of tank A with this context, in the middle of the regeneration it belongs to. -/
def running (c : RunCtx) (s : State) : State :=
  { bServes .regenerating s with
    run := { s.run with ctx := some c, copy := some c }, queue := { s.queue with grant := some c.unit } }

/-- A context of tank A, in its slot of the factory programme. -/
def ctxA (slot : Nat) (state : RunState) : RunCtx :=
  { unit := .a, cls := .required, reason := .metered, state := state, slot := some slot
    budget := 1800, budgetAtDispatch := 1800 }

/-- V_SOFT with this status. -/
def softAt (x : ValveStatus) (s : State) : State := { s with valves.soft.status := x }

/-- V_SHUT with this status, on a part whose lines follow. -/
def shutAt (x : ValveStatus) (s : State) : State := { s with valves.shut.status := x }

/-- The driver grant stands so. -/
def driving (g : Grant) (s : State) : State := { s with valves.grant := some g }

/-- A move of V_SOFT to SRV_B with its requester. -/
def softMove (phase : MovePhase) (retry : Bool) : Grant :=
  { valve := .soft, target := 1, cls := .run, req := some ⟨1, .run, .runController, 0⟩, phase := phase
    retry := retry, dir := some .forward, nominal := 3 }

/-- An episode of class ACTIVE with its factory limits. -/
def draw (age volume still : Nat) : Episode :=
  { startCounter := 0, startTime := {}, age := age, volume := volume, peak := 60, average := none, fixture := none
    cls := .active, durationLimit := 60, volumeLimit := 400, prewarned := false, extended := false, still := still }

/-- A flow sample of these figures. -/
def sample (supply drain refill rate : Nat) : Sample :=
  { time := 0, supply := supply, drain := drain, refill := refill, household := supply - (drain + refill)
    deficit := drain + refill - supply, rate := rate, drainValid := true }

/-- The factory settings. -/
def factory : Settings := {}

/-- The part is calm, and every command of the tests begins between two actions. -/
theorem test_calm_listens : Listens calm ∧ Listens (running (ctxA 2 .running) calm) := by decide

/-- The state after the first restart satisfies what the statements ask of a part between two actions. -/
theorem test_reset_atRest : AtRest State.reset ∧ Listens State.reset := by decide

/-! ## Well-formedness: each check refuses an ill-formed command -/

theorem test_wf_secondTick : Instr.wf (.secondTick [.brine, .brine]) = false := by decide
theorem test_wf_interval : Instr.wf (.meteringIntervalExpiry [.bed, .run, .bed]) = false := by decide
theorem test_wf_pollBattery : Instr.wf (.pollEnd (.clean ⟨.dry, some 65536, none⟩)) = false := by decide
theorem test_wf_pollTemperature : Instr.wf (.pollEnd (.clean ⟨.dry, none, some 201⟩)) = false := by decide
theorem test_wf_enrolSerial : Instr.wf (.enrolDiscoverEnd (some 4294967296)) = false := by decide
theorem test_wf_recoverySerial : Instr.wf (.recoveryDiscoverEnd (some 4294967296)) = false := by decide
theorem test_wf_enrolAddress : Instr.wf (.enrolAssignEnd (some 64)) = false := by decide
theorem test_wf_recoveryAddress : Instr.wf (.recoveryAssignEnd (some 64)) = false := by decide
theorem test_wf_releaseAddress : Instr.wf (.releaseAssignEnd (some 64)) = false := by decide
theorem test_wf_grantShut : Instr.wf (.moveGrant (.pos 2) (.pos 0) (.pos 0)) = false := by decide
theorem test_wf_grantShutSpan : Instr.wf (.moveGrant (.span 1) (.pos 0) (.pos 0)) = false := by decide
theorem test_wf_grantFlt : Instr.wf (.moveGrant (.pos 0) (.pos 4) (.pos 0)) = false := by decide
theorem test_wf_grantSoft : Instr.wf (.moveGrant (.pos 0) (.pos 0) (.pos 10)) = false := by decide
theorem test_wf_settle : Instr.wf (.settleEnd (.pos 10)) = false := by decide
theorem test_wf_drive : Instr.wf (.driveTimeout (.span 10)) = false := by decide
theorem test_wf_stall : Instr.wf (.extendStall (.pos 10)) = false := by decide
theorem test_wf_kindKnown : Instr.wf (.badKind 0 0x7F) = false := by decide
theorem test_wf_lengthRight : Instr.wf (.badLength 0 0x02 1) = false := by decide
theorem test_wf_lengthAbove : Instr.wf (.badLength 0 0x02 97) = false := by decide
theorem test_wf_lengthUnknownKind : Instr.wf (.badLength 0 0x09 1) = false := by decide

/-- The same commands with their operands in range are taken. -/
theorem test_wf_takes : Instr.wf (.secondTick [.brine, .loop]) = true ∧
    Instr.wf (.moveGrant (.pos 1) (.span 2) (.span 9)) = true ∧ Instr.wf (.badKind 0 0x09) = true ∧
    Instr.wf (.badLength 0 0x02 0) = true ∧ Instr.wf (.frameDiscard [97]) = true := by decide

/-! ## The manual's worked examples -/

/-- The metering second of chapter 1, before its first expiry. -/
def rinsing : State :=
  { running { ctxA 3 .running with posReached := true } (softAt (.atPos 4) calm) with
    meter := { window := [210, 190, 200, 200, 200], dayAccum := 412350, supplyCount := 181, drainCount := 90 } }

/-- The fields the example's table shows. -/
def figures (s : State) : Option (Nat × Nat × Nat × Nat × Nat) :=
  s.meter.latest.map (fun x => (x.supply, x.drain, x.household, x.deficit, x.rate))

/-- The second and the third interval of the example. -/
def rinsing2 : State := { after (.meteringIntervalExpiry []) rinsing with meter.supplyCount := 95, meter.drainCount := 92 }

/-- R9 to R17, worked example: a metering second. -/
theorem test_meteringSecond : figures (after (.meteringIntervalExpiry []) rinsing) = some (402, 200, 202, 0, 119) ∧
    (after (.meteringIntervalExpiry []) rinsing).meter.supplyResidue = 100 := by decide

theorem test_meteringSecond2 : figures (after (.meteringIntervalExpiry []) rinsing2) = some (211, 204, 7, 0, 97) ∧
    (after (.meteringIntervalExpiry []) rinsing2).meter.dayAccum = 412559 := by decide

/-- R17, worked example: closing a usage day. -/
theorem test_usageDay :
    (closeUsageDay { calm with meter := { days := [580, 640, 610, 720, 595, 605, 630], dayAccum := 412559 } }).meter.days =
        [640, 610, 720, 595, 605, 630, 412] ∧
      (closeUsageDay { calm with meter := { dayAccum := 412559 } }).meter.dayAccum = 559 := by decide

/-- R19, R20, worked example: the third reading without an echo makes LEVEL invalid. -/
theorem test_levelLost :
    let t := after (.channelReading .level 1500) (after (.channelReading .level 1500)
      { calm with analog.level := { value := some 640, valid := true, saturated := 1, lastGood := some 640 } })
    t.analog.level = { value := some 1500, valid := false, saturated := 3, lastGood := some 640 } ∧
      t.brine.levelMass = none ∧ t.link.events.map (·.event) = [.sensorFault .level] := by decide

/-- The day-of-service tank of chapter 2. -/
def wellWater : State :=
  { calm with
    settings := { hardness := 490, iron := 430 }
    bed := { compensated := 520, tankA := { factoryTankA with remaining := 9000 } }
    meter := { days := [640, 610, 720, 595, 605, 630, 412] } }

/-- R27, worked example: five litres. -/
theorem test_fiveLitres :
    (chargeLoad 1000 wellWater).bed.tankA.remaining = 8995 ∧ (chargeLoad 1000 wellWater).bed.tankA.residue = 5120000 ∧
      (chargeLoad 1000 (chargeLoad 1000 (chargeLoad 1000 (chargeLoad 1000 (chargeLoad 1000 wellWater))))).bed.tankA =
        { factoryTankA with remaining := 8974 } := by decide

/-- R30, worked example: the reserve at an average of 601 L is 3125. -/
theorem test_reserve : (recomputeReserve wellWater).bed.reserve = 3125 ∧ averageUse wellWater = 601 := by decide

/-- The tank of the probe correction, one reading before the trip. -/
def probing : State :=
  { bServes .waiting wellWater with
    bed := { (bServes .waiting wellWater).bed with
      tankB := { role := .inService, remaining := 3600, urgency := .due, probeArmed := true, deviation := 2 }
      reserve := 3125 }
    meter := { wellWater.meter with latest := some { sample 190 0 0 100 with household := 190 } } }

/-- R37 to R39, worked example: a probe correction. -/
theorem test_probeCorrection :
    let t := after (.channelReading .probeB 224) probing
    t.bed.factor = 265 ∧ t.bed.tankB.remaining = 2400 ∧ t.bed.tankB.probeArmed = false := by decide

/-- The brine record of chapter 3's table. -/
def brined (age : Nat) (bridge : Bool) (stage : Stage) : State :=
  { calm with brine := { volume := 8010, age := age, bridge := bridge, stage := stage } }

/-- R52, worked example: strength of the brine. -/
theorem test_brineStrength :
    saltDissolved (brined 7200 false .ok) = 843 ∧ saltDissolved (brined 43200 false .ok) = 2539 ∧
      saltDissolved (brined 43200 true .ok) = 763 ∧ saltDissolved (brined 43200 false .out) = 634 ∧
      saltDissolved (brined 7200 true .out) = 634 := by decide

/-- R42, the credit column of the same table. -/
theorem test_credit : creditOf 843 factory = 4215 ∧ creditOf 2539 factory = 12000 ∧ creditOf 763 factory = 3815 := by
  decide

/-- R48, R49, worked example: a bag of salt seen by the level sensor. -/
theorem test_bagOfSalt :
    let t := after (.channelReading .level 412) { calm with
      brine := { model := 27800, comparison := some 29250, regens := 2, modelDrop := 5078, anchor := some 31500 } }
    t.brine.model = 54900 ∧ t.brine.levelMass = some 54900 ∧ t.brine.regens = 0 ∧ t.brine.anchor = some 54900 ∧
      t.link.events.map (·.event) = [.saltDetectedAdd 27800 54900] := by decide

/-- R54, worked example: a bridge develops, at the third completion. -/
theorem test_bridge :
    let t := brineCompletion 2539 { calm with
      brine := { model := 39922, levelMass := some 44775, comparison := some 44775, anchor := some 45000, height := 398
                 regens := 2, modelDrop := 5078, levelDrop := 225, volume := 8010 } }
    t.brine.bridge = true ∧ t.brine.model = 37383 ∧
      t.link.events.map (·.event) = [.saltBridge 37383 44775 3 7617 225] := by decide

/-- R58: 41 days of salt at the ring of the example. -/
theorem test_daysRemaining :
    daysRemaining { calm with brine := { model := 45000, ring := [0, 2539, 0, 2539, 0, 2539, 0] } } = some 41 := by decide

/-- R107, R108, worked example: samples 1, 3, 5 and 6 of the evening. -/
theorem test_pressureLoss : dpNorm (420 - 384) 120 = 60 ∧ dpNorm 45 150 = 60 ∧ dpNorm 50 180 = 55 ∧ dpNorm 80 250 = 64 := by
  decide

/-- R108: sample 8 of the evening latches WANTED, and the tap of an hour later is clogged. -/
theorem test_pressureTrigger :
    let s := { calm with
      analog := { pIn := { valid := true, lastGood := some 430 }, pOut := { valid := true, lastGood := some 350 } }
      filter := { state := .inService, volume := 18520000, highCount := 2 } }
    (measurePressure (sample 100 0 0 250) s).filter.trigger = some .wanted ∧
      (measurePressure (sample 100 0 0 100) { s with analog.pOut.lastGood := some 368 }).link.events.map (·.event) =
        [.filterClogged 124 62 100 18520] := by decide

/-- R115, worked example: from detent 5 to SRV_B four detents REVERSE, from the span between 2 and 3 two. -/
theorem test_discWay : moveDirection .soft (.pos 5) 1 = (.reverse, 4) ∧ moveDirection .soft (.span 2) 1 = (.reverse, 2) ∧
    nominalDrive .soft 4 = 12 := by decide

/-- R140, worked example: the twentieth confirming sample trips with cause BURST and closes the supply. -/
theorem test_burst :
    let s := { calm with
      leak := { episode := some { draw 23 17250 0 with cls := .quiet, durationLimit := 20, volumeLimit := 100 }
                state := .suspect, burst := some 1 } }
    let t := leakSample (sample 750 0 0 450) s
    t.leak.state = .isolating ∧ t.leak.record.map (fun r => (r.cause, r.volume)) = some (.burst, 18000) ∧
      t.valves.shut.waiting.map (·.target) = some 1 := by decide

/-- The pods of chapter 9's wet floor. -/
def wetFloor : State :=
  { calm with loop := { inFlight := some (.poll 3), lastPolled := 3, pods :=
      [{ address := 3, serial := 30, policy := .shutoff, reported := .dry, acknowledged := .dry },
       { address := 7, serial := 70, policy := .alarm, reported := .dry, acknowledged := .dry, misses := 2 },
       { address := 12, serial := 120, policy := .shutoff, reported := .dry, acknowledged := .dry
         battery := some 2640 }] } }

/-- R160, worked example: pod 3 answers WET. -/
theorem test_wetFloor :
    let t := after (.pollEnd (.clean ⟨.wet, none, none⟩)) wetFloor
    t.leak.state = .isolating ∧ t.alarm = true ∧ t.loop.inFlight = some (.poll 7) ∧
      t.link.events.map (·.event) = [.podWet 3 30 .shutoff] := by decide

/-- R159, worked example: pod 7 is silent at its third miss. -/
theorem test_silentPod :
    (after (.pollEnd .miss) { wetFloor with loop.inFlight := some (.poll 7), loop.lastPolled := 7 }).link.events.map
      (·.event) = [.podSilent 7 70 .dry] := by decide

/-- R189, worked example: five of the seven entries fit. -/
theorem test_longEvening :
    fitting eventRoom [⟨.powerChange .reserve .mains .mainsConfirmed (some 12600), 4, 0⟩, ⟨.runDone .a 0 0 0 0 0 0, 1, 0⟩,
      ⟨.saltReminder .low 9000 (some 9), 2, 0⟩, ⟨.valveFault .soft 1 .run .invalid, 1, 0⟩,
      ⟨.leakWarning .volume .active none 0 0, 1, 0⟩, ⟨.podSilent 7 70 .dry, 1, 0⟩, ⟨.podBattery 12 2580, 1, 0⟩] = 5 := by
  decide

/-- R196: the CRC over the nine digits is 29B1h. -/
theorem test_crc : Link.crc [0x31, 0x32, 0x33, 0x34, 0x35, 0x36, 0x37, 0x38, 0x39] = 0x29B1 := by
  decide +kernel

/-- R3, R4: the last second of the week is followed by day 0, 00:00:00, and the first of an hour by the next. -/
theorem test_weekEnds : (clockSecond ⟨6, 23, 59, 59, true⟩).1 = ⟨0, 0, 0, 0, true⟩ ∧
    (clockSecond ⟨3, 22, 39, 59, true⟩).1 = ⟨3, 22, 40, 0, true⟩ := by decide

/-- R178, R179: the first restart of a part, and the third restart without progress of chapter 10's example. -/
theorem test_coldRestart :
    after .restart { calm with
      resets.inReset := some { kind := .supply }, supply.mainsPin := true, valves.shut.sense := .span 0
      valves.flt.sense := .span 0, valves.soft.sense := .span 0 } = State.reset := by decide

theorem test_thirdRestart :
    let c := { ctxA 3 .running with restarts := 2, brineDone := true, posReached := true }
    let t := after .restart { calm with
      resets.inReset := some { kind := .brownout }, store.image := some { copy := some c } }
    t.run.ctx.map (fun x => (x.state, x.outcome.isSome)) = some (.finishing, true) ∧ t.resets.record.resumed = false := by
  decide

/-- Log 31: no word of the table spells a command. -/
theorem test_words : decodeTableWord 8 0 = none ∧ calm.withFetchWord 8 0 = calm := by decide

/-! ## Behaviour that several rules meet in -/

/-- R115, R121 (log 24): a move granted FORWARD, from detent 5 to 0, whose disc reads the span past detent 4 at the
start of DRIVE takes the smaller count from there, five detents REVERSE; from an invalid reading a REVERSE one takes five
FORWARD. -/
theorem test_directionAtDrive :
    let way := fun (reading : Reading) (d : Dir) =>
      (after (.settleEnd reading) (driving { softMove .settle false with target := 0, dir := some d } calm)).valves.grant.map
        (fun g => (g.dir, g.nominal))
    way (.span 4) .forward = some (some .reverse, 15) ∧ way .invalid .reverse = some (some .forward, 15) := by decide

/-- R55, R44: a run cancelled half way through its second BRINE step reports the part taken back, half of its 2539 g. -/
theorem test_secondBrineAbort :
    let c := { ctxA 2 .running with brineDone := true, dissolved := some 2539, elapsed := 1800, posReached := true }
    let t := after (.cancelRun 7 0) (running c calm)
    t.run.ctx.map saltOf = some 1269 ∧ t.brine.accum = 1269 := by decide +kernel

/-- R105: a sample that expires with V_FLT AT(SERVICE) counts as filtered, although the queue's turn before the filter's
dispatches F and drives V_FLT away. -/
theorem test_filteredAtExpiry :
    let s := { calm with
      queue.entries := [{ unit := .f, cls := .required, reason := .filterDp, age := 0, entered := {}, deferral := 0, joined := 0 }]
      valves.flt.lastDir := none, meter.supplyCount := 500 }
    let t := after (.meteringIntervalExpiry [.queue, .filter]) s
    t.valves.flt.status = .moving ∧ t.filter.unfiltered = 0 ∧ 0 < t.filter.volume := by decide

/-- R185: the reply of SHUTOFF_CLOSE shows V_SHUT as the action leaves it. -/
theorem test_replyAfterFollowUps :
    let t := after (.shutoffClose 7) { calm with valves.shut.lastDir := none }
    t.valves.shut.status = .moving ∧ Sends 0xBB 7 .ok (encReasons { commanded := true } ++ encStatus .moving) t := by
  decide +kernel

/-- R167: one CONFIRM of address 0 ends the release in flight alone, not another of the same serial. -/
theorem test_oneReleaseEnds :
    (after (.releaseAssignEnd (some 0)) { wetFloor with
      loop.inFlight := some (.release ⟨5, 1⟩), loop.releases := [⟨5, 1, 1⟩, ⟨5, 2, 0⟩]
      loop.toRelease := [⟨5, 2⟩] }).loop.releases.map (fun r => (r.serial, r.address)) = [(5, 2)] := by decide

/-- R157: DORMANT entered and left during one POLL stops that cycle, and a new one begins with the lowest address. -/
theorem test_dormantStopsTheCycle :
    let s := { wetFloor with loop.inFlight := some (.poll 7), loop.lastPolled := 7 }
    (after (.pollEnd .miss) (loopRegime .dormant .reserve (loopRegime .reserve .dormant s))).loop.inFlight =
      some (.poll 3) := by decide

/-- R165: a listen that runs into DORMANT sends nothing in the cycle that the leaving begins, and ends with no pod. -/
theorem test_mutedListen :
    let s := loopRegime .dormant .reserve (loopRegime .reserve .dormant { calm with
      loop.listen := { running := true, seconds := 1, candidate := some ⟨99, 1⟩ } })
    s.loop.inFlight = none ∧ s.loop.listen.running = true ∧
      (listenSecond s).loop.listen = { running := false, muted := true } ∧ (listenSecond s).loop.pods = [] := by decide

/-- R182, R196: the bytes of a frame, as they come, do what its message does. -/
theorem test_bytesOfIdentify :
    after (.frameDiscard (Link.frame 1 7 [])) calm = after (.identify 7) calm := by decide +kernel

/-- R111: the measures of a sample find F BACKWASHING, its run then aborts the backwash, and the request of the same
sample merges into the re-queued entry, raising its class. -/
theorem test_requestMergesIntoRequeued :
    let c := { ctxA 9 .suspended with unit := .f, cls := .optional, susPower := true, powerSuspended := 86399 }
    let t := after (.meteringIntervalExpiry [.filter, .run, .filterRequest])
      { calm with
        run.ctx := some c, run.copy := some c, queue.grant := some .f, supply.regime := .reserve
        filter := { state := .backwashing, trigger := some .required } }
    t.run.ctx = none ∧ t.queue.entries.map (fun e => (e.unit, e.cls, e.reason)) = [(.f, .required, .resumed)] := by
  decide

/-! ## Witnesses: the hypotheses of each statement are met together, clause by clause -/

/-- No command waits; a trigger and a write in progress (StepRunsTheFrontCommand, WritesOfTheSnapshotStore). -/
theorem witness_queue_and_writes : calm.pending = [] ∧ AtRest calm ∧
    (let s := { calm with store.writing := some factoryImage }
     held s = false ∧ s.resets.held = none ∧ s.store.writing = some factoryImage ∧ AtRest s) := by decide

/-- A part held in reset by this call. -/
def inReset (call : ResetCall) : State := { calm with resets.inReset := some call }

/-- The last second of the week, awake and in reset (SecondAdvancesClockAndDay). -/
theorem witness_second :
    (let s := { calm with time.clock := ⟨6, 23, 59, 59, true⟩ }
     held s = false ∧ ClockInRange s.time.clock ∧ (secondOfWeek s.time.clock + 1) % 604800 = 0) ∧
    (inReset { kind := .pin }).resets.inReset = some { kind := .pin } ∧
    ClockInRange (inReset { kind := .supply }).time.clock := by decide

/-- Counts below and at the limit of a figure, and a part in reset (PulsesBecomeMillilitres). -/
theorem witness_pulses : held calm = false ∧ 0 < calm.settings.supplyK ∧ 0 < calm.settings.drainK ∧
    ¬5000 < (2250 * 1000 + 449) / calm.settings.supplyK ∧ 5000 < (2251 * 1000 + 0) / calm.settings.supplyK ∧
    ¬5000 < (2250 * 1000 + 449) / calm.settings.drainK ∧ 5000 < (2251 * 1000 + 0) / calm.settings.drainK ∧
    drainUsing calm = none ∧ held (inReset { kind := .pin }) = true := by decide

/-- A full window of largest figures (SampleSplitsTheSupplyAndFormsTheRate). -/
theorem witness_sample : held calm = false ∧ [5000, 5000, 5000, 5000, 5000].length ≤ 5 ∧
    (∀ v ∈ [5000, 5000, 5000, 5000, 5000], v ≤ 5000) ∧ calm.meter.window.length ≤ 5 ∧
    calm.meter.dayAccum + 5000 ≤ 432000000 := by decide

/-- A drain-using step and none, a pulse and none, the count below and at 60 (DrainMeterAndItsFault). -/
theorem witness_drain :
    (AtRest rinsing ∧ drainUsing rinsing = some (.a, .rinse) ∧ 0 < rinsing.meter.drainCount ∧
      rinsing.meter.drainValid = true) ∧
    (let s := { rinsing with meter.drainCount := 0, meter.zeroDrain := 60 }
     AtRest s ∧ s.meter.drainCount = 0 ∧ drainUsing s = some (.a, .rinse) ∧ 60 ≤ s.meter.zeroDrain) ∧
    (let s := { rinsing with meter.drainCount := 0, meter.drainValid := false }
     AtRest s ∧ drainUsing s ≠ none ∧ s.meter.drainValid = false) ∧
    (AtRest calm ∧ calm.meter.drainCount = 0 ∧ drainUsing calm = none ∧ held (inReset { kind := .pin }) = true) := by
  decide

/-- A running part takes a reading at each rail and between (ReadingUpdatesItsChannel). -/
theorem witness_reading : held calm = false ∧ (50 : Int) ≤ (rails .level).1 ∧ (rails .level).2 ≤ 1500 ∧
    ¬((51 : Int) ≤ (rails .level).1 ∨ (rails .level).2 ≤ 51) := by decide

/-- A listening part, with the clock set and unset (TimeMessagesAndQuietStatus). -/
theorem witness_time : Listens calm ∧ calm.time.clock.clockSet = false ∧
    (let s := { calm with time.clock := ⟨6, 23, 59, 59, true⟩ }
     Listens s ∧ s.time.clock.clockSet = true ∧ s.time.clock.day ≤ 6 ∧ s.time.clock.hour ≤ 23) := by decide

/-- A changeover that stands completed, and one that is not pending (ChangeoverPassesTheService). -/
theorem witness_changeover :
    (let s := softAt (.atPos 1) { calm with bed.changePending := true }
     AtRest s ∧ OneServes s.bed.tankA s.bed.tankB ∧ servingTank s = .a ∧ s.bed.changePending = true ∧
      (tankRec .b s).role = .standby ∧ isAt .soft (servicePos .b) s = true ∧ s.run.ctx = none ∧ s.run.holds = [] ∧
      s.queue.entries = []) ∧
    (AtRest calm ∧ OneServes calm.bed.tankA calm.bed.tankB ∧ calm.bed.changePending = false) := by decide

/-- A trip just below, and just at, an eighth of the credit used (ProbeTripAndEnableProbe). -/
theorem witness_probe :
    (let s := { calm with bed.tankA := { factoryTankA with remaining := 10501, deviation := 3 } }
     AtRest s ∧ OneServes s.bed.tankA s.bed.tankB ∧ (tankRec .a s).role = .inService ∧
      3 ≤ (tankRec .a s).deviation ∧ 12000 - 10501 < 12000 / 8) ∧
    (let s := { calm with bed.tankA := { factoryTankA with remaining := 10500, deviation := 3 } }
     AtRest s ∧ 3 ≤ (tankRec .a s).deviation ∧ 12000 / 8 ≤ 12000 - 10500 ∧ 12000 - 10500 ≠ 0) ∧
    (Listens calm ∧ readTank 0 = some .a ∧ readTank 1 = some .b ∧ readTank 2 = none) := by decide

/-- Distances at both ends of the unsaturated range, with and without a comparison mass, and while a BRINE step runs
(LevelReadingIsReconciled). -/
theorem witness_level : AtRest calm ∧ 50 < 51 ∧ 51 < 1500 ∧ 50 < 1499 ∧ 1499 < 1500 ∧
    brineStepRunning calm = false ∧ calm.brine.comparison = none ∧
    (let s := running { ctxA 2 .running with posReached := true } calm
     AtRest s ∧ brineStepRunning s = true) ∧
    (let s := { calm with brine.comparison := some 29250 }
     AtRest s ∧ s.brine.comparison = some 29250 ∧ 29250 + 5000 ≤ 54900) := by decide

/-- A stage that worsens, one that returns to OK, one that stands, and both timers at 0 (SaltStageAndItsTimers). -/
theorem witness_stage :
    stageRank calm.brine.stage < stageRank (stageFound calm) ∧
    (let s := { calm with brine := { model := 54900, stage := .low } }
     stageFound s = .ok ∧ s.brine.stage ≠ .ok) ∧
    (let s := { calm with brine := { model := 54900 } }
     stageRank (stageFound s) ≤ stageRank s.brine.stage ∧ s.brine.stage = .ok) ∧
    (let s := { calm with brine.reminder := some 0, brine.snooze := some 0 }
     AtRest s ∧ s.brine.reminder = some 0 ∧ s.brine.snooze = some 0) ∧
    (AtRest calm ∧ calm.brine.reminder ≠ some 0 ∧ calm.brine.snooze ≠ some 0) := by decide

/-- A listening part in stage OK and in stage LOW, and a mass at each limit (SaltMessages). -/
theorem witness_salt : Listens calm ∧ calm.brine.stage = .ok ∧
    (let s := { calm with brine.stage := .low }
     Listens s ∧ s.brine.stage ≠ .ok) ∧
    max 1 (min 150000 (150000#32).toNat) = (150000#32).toNat ∧
    max 1 (min 150000 (150001#32).toNat) ≠ (150001#32).toNat := by decide

/-- A run at the entry of its BRINE step, and of its REFILL step, its valve there and elsewhere
(StepIsEnteredWithFreshCounts). -/
theorem witness_entry :
    (let c := ctxA 2 .running
     let s := running c (softAt (.atPos 3) calm)
     s.run.ctx = some c ∧ currentStep c s = some ⟨.brine, .time, 3600, none, false, some 3⟩ ∧ c.unit ≠ .f ∧
      c.saltComputed = false ∧ isAt .soft (stepPosition .a .brine) s = true ∧ c.suspendedBy = false) ∧
    (let c := ctxA 4 .running
     let s := running c calm
     s.run.ctx = some c ∧ currentStep c s = some ⟨.refill, .volume, 80, none, false, none⟩ ∧ c.unit ≠ .f ∧
      0 < s.settings.refillRate ∧ isAt .soft (stepPosition .a .refill) s = false) := by decide

/-- A step that stands at its end: BACKWASH into the next slot, RINSE by its cap, REFILL at the end of the programme
away from and at the finishing position, and a seventeenth step (StepEndFollowsTheLink). -/
theorem witness_stepEnd :
    (let c := { ctxA 1 .running with elapsed := 600 }
     let s := running c calm
     let st : Machine.Step := ⟨.backwash, .time, 600, none, true, some 2⟩
     AtRest s ∧ s.run.ctx = some c ∧ c.state = .running ∧ currentStep c s = some st ∧ stepReached c st = true ∧
      slotOf s.run.table 2 = some ⟨.brine, .time, 3600, none, false, some 3⟩ ∧ c.steps < 16 ∧ c.unit ≠ .f) ∧
    (let c := { ctxA 3 .running with elapsed := 600, stepVolume := 59999 }
     let s := running c calm
     let st : Machine.Step := ⟨.rinse, .volume, 600, some 600, true, some 4⟩
     AtRest s ∧ currentStep c s = some st ∧ stepReached c st = true ∧ stepCapped c st = true) ∧
    (let c := { ctxA 4 .running with elapsed := 27, refillTarget := 27 }
     let st : Machine.Step := ⟨.refill, .volume, 80, none, false, none⟩
     let s := running c (softAt (.atPos 5) calm)
     AtRest s ∧ currentStep c s = some st ∧ stepReached c st = true ∧ st.next = none ∧
      isAt c.unit.valve (restPosition c.unit) s = false ∧
      isAt c.unit.valve (restPosition c.unit) (running c (softAt (.atPos 1) calm)) = true) ∧
    (let c := { ctxA 2 .running with elapsed := 3600, steps := 16 }
     let s := running c (softAt (.atPos 3) calm)
     let st : Machine.Step := ⟨.brine, .time, 3600, none, false, some 3⟩
     AtRest s ∧ currentStep c s = some st ∧ stepReached c st = true ∧ 16 ≤ c.steps ∧
      isAt c.unit.valve (restPosition c.unit) s = false) ∧
    (AtRest calm ∧ calm.run.ctx = none) := by decide

/-- A hold count at 10, a release count at 60, a spent budget (HoldsBeginAndEnd). -/
theorem witness_holds :
    (let c := { ctxA 1 .running with holdCount := 10 }
     AtRest (running c calm) ∧ c.state = .running ∧ 10 ≤ c.holdCount ∧ c.state ≠ .holding) ∧
    (let c := { ctxA 1 .holding with releaseCount := 60 }
     AtRest (running c calm) ∧ c.state = .holding ∧ 60 ≤ c.releaseCount ∧ c.budget ≠ 0 ∧ c.state ≠ .running) ∧
    (let c := { ctxA 1 .holding with budget := 0 }
     AtRest (running c calm) ∧ c.state = .holding ∧ c.releaseCount < 60 ∧ c.budget = 0) := by decide

/-- A suspended run with no cause left, in each of its cases, and one at the power suspension limit
(SuspendedRunResumesOrIsAborted). -/
theorem witness_suspended :
    (let c := { ctxA 1 .suspended with posReached := true }
     AtRest (running c calm) ∧ (running c calm).run.ctx = some c ∧ c.state = .suspended ∧ c.susShutoff = false ∧
      c.susPower = false ∧ c.parked = false) ∧
    (let c := { ctxA 1 .suspended with parked := true }
     currentStep c (running c calm) = some ⟨.backwash, .time, 600, none, true, some 2⟩ ∧ AtRest (running c calm)) ∧
    (let c := { ctxA 4 .suspended with parked := true }
     currentStep c (running c calm) = some ⟨.refill, .volume, 80, none, false, none⟩ ∧ AtRest (running c calm)) ∧
    (let c := { ctxA 2 .suspended with parked := true, elapsed := 1799 }
     currentStep c (running c calm) = some ⟨.brine, .time, 3600, none, false, some 3⟩ ∧ c.elapsed < 3600 / 2) ∧
    (let c := { ctxA 2 .suspended with parked := true, elapsed := 1800 }
     3600 / 2 ≤ c.elapsed ∧ slotOf (running c calm).run.table 3 = some ⟨.rinse, .volume, 600, some 600, true, some 4⟩) ∧
    (let c := { ctxA 1 .suspended with susPower := true, powerSuspended := 86400 }
     AtRest (running c calm) ∧ c.state ≠ .finishing ∧
      (running c calm).settings.powerLimit * 3600 ≤ c.powerSuspended ∧
      isAt .soft (restPosition .a) (running c calm) = false ∧
      isAt .soft (restPosition .a) (running c (softAt (.atPos 1) calm)) = true ∧ (ctxA 1 .suspended).susPower = false) := by
  decide

/-- The ends of a run: DONE and ABORTED, of a tank and of F (RunEndReportsAndReleases). -/
theorem witness_runEnd :
    (let c := { ctxA 4 .finishing with outcome := some .done, slot := none, pendingCredit := 12000 }
     let s := running c (softAt (.atPos 1) calm)
     AtRest s ∧ s.run.ctx = some c ∧ c.state = .finishing ∧ isAt c.unit.valve (restPosition c.unit) s = true ∧
      (tankRec .a s).role = .regenerating ∧ c.unit.tank = some .a) ∧
    (let c := { ctxA 4 .finishing with
       unit := .f, slot := none, outcome := some (.aborted ⟨.commanded, .none, 9, 0⟩) }
     let s := running c calm
     AtRest s ∧ c.state = .finishing ∧ isAt c.unit.valve (restPosition c.unit) s = true ∧ c.unit = .f) := by decide

/-- PUT_STEP and SET_ENTRY at the ends of the slot range, with a slot of a run, a slot that is free, and a record with a
byte that names no value (StepTableMessages). -/
theorem witness_stepTable :
    Listens calm ∧ calm.run.table.length = 16 ∧ calm.run.ctx = none ∧ (0#8).toNat < 1 ∧ 16 < (17#8).toNat ∧
    (1 ≤ (16#8).toNat ∧ (16#8).toNat ≤ 16) ∧
    (let s := running (ctxA 2 .running) calm
     Listens s ∧ s.run.ctx = some (ctxA 2 .running) ∧ (ctxA 2 .running).slot = some (2#8).toNat) ∧
    readStep 0 0 600 0 0 1 2 = some ⟨.backwash, .time, 600, none, true, some 2⟩ ∧
    stepSound ⟨.backwash, .time, 600, none, true, some 2⟩ = true ∧
    readStep 1 1 600 0 0 1 2 = some ⟨.brine, .volume, 600, none, true, some 2⟩ ∧
    readStep 5 0 600 0 0 1 2 = none ∧ readStep 0 0 600 2 0 1 2 = none ∧
    (1#8).toNat ≤ 1 ∧ 1 < (2#8).toNat := by decide

/-- A queue with an entry of F that is eligible, after one of A that is not (DispatchOfTheFirstEligibleEntry). -/
def waiting : List Entry :=
  [{ unit := .f, cls := .wanted, reason := .filterDp, age := 5403, entered := {}, deferral := 0, joined := 1 },
   { unit := .a, cls := .optional, reason := .metered, age := 52403, entered := {}, deferral := 0, joined := 0 }]

/-- A re-evaluation that dispatches F, one that finds the head blocked, one with the grant present, one with nothing
eligible (DispatchOfTheFirstEligibleEntry). -/
theorem witness_dispatch :
    (let s := { bServes .waiting calm with queue.entries := waiting }
     AtRest s ∧ s.queue.grant = none ∧ s.run.ctx = none ∧ s.queue.entries = [] ++ waiting[0] :: [waiting[1]] ∧
      blockerOf waiting[0] s = none ∧ slotOf s.run.table s.run.filterEntry =
        some ⟨.backwash, .time, 600, none, true, some 10⟩) ∧
    (let head := { waiting[0] with deferral := 60 }
     let s := { bServes .waiting calm with
       queue.entries := [head, { waiting[1] with cls := .required }] }
     AtRest s ∧ blockerOf head s = some .deferred ∧ blockerOf { waiting[1] with cls := .required } s = none) ∧
    (running (ctxA 1 .running) calm).queue.grant ≠ none ∧
    (let s := { bServes .waiting calm with queue.entries := [waiting[1]] }
     AtRest s ∧ ∀ x ∈ s.queue.entries, blockerOf x s = some .notQuiet) := by decide

/-- An entry at 48 hours, one a second younger, and a hold whose valve is clear (QueueOrderAgingAndHeldUnits). -/
theorem witness_aging :
    (let s := { bServes .waiting calm with queue.entries := [{ waiting[1] with age := 172800 }] }
     AtRest s ∧ ∃ e ∈ s.queue.entries, e.cls = .optional ∧ 172800 ≤ e.age) ∧
    (let s := { bServes .waiting calm with queue.entries := [{ waiting[1] with age := 172799 }] }
     AtRest s ∧ ∀ e ∈ s.queue.entries, e.cls = .optional → e.age < 172800) ∧
    (let s := { bServes .waiting calm with run.holds := [⟨.a, .wanted, .valveClear⟩] }
     AtRest s ∧ (∀ h ∈ s.run.holds, h.condition = .valveClear ∧ isFault h.unit.valve s = false ∧
      s.run.ctx.map (·.unit) ≠ some h.unit) ∧ (tankRec .a s).role = .waiting ∧ s.queue.entries = []) := by decide

/-- REQUEST_REGEN taken: for the tank in service, its other STANDBY, and for a tank of role STANDBY and of role WAITING
(RequestRegenByTheTanksRole). -/
theorem witness_regen_taken :
    (Listens calm ∧ (tankRec .a calm).role = .inService ∧ (tankRec .b calm).role = .standby ∧ servingTank calm = .a) ∧
    (calm.bed.changePending = false ∧ calm.run.holds = [] ∧ calm.run.ctx = none) ∧
    (Listens (bServes .waiting calm) ∧ (tankRec .a (bServes .waiting calm)).role = .waiting) ∧
    (readTank 0, readTank 1) = (some .a, some .b) ∧ (readMode 0, readMode 1) = (some .required, some .optional) := by
  decide

/-- REQUEST_REGEN refused: the tank runs, waits under a hold, is the target of a changeover, or serves alone
(RequestRegenByTheTanksRole). -/
theorem witness_regen_refused :
    (Listens (bServes .regenerating calm) ∧ (tankRec .a (bServes .regenerating calm)).role = .regenerating) ∧
    (let s := { bServes .waiting calm with run.holds := [⟨.a, .wanted, .valveClear⟩] }
     Listens s ∧ (tankRec .a s).role = .waiting ∧ ∃ h ∈ s.run.holds, h.unit = .a) ∧
    (let s := { calm with bed.changePending := true }
     Listens s ∧ (tankRec .b s).role = .standby ∧ s.bed.changePending = true) ∧
    (let s := bServes .waiting calm
     (tankRec .b s).role = .inService ∧ (tankRec .a s).role ≠ .standby) := by decide

/-- REQUEST_BACKWASH with F running and with nothing of it, CANCEL_RUN of a unit with neither run nor entry
(BackwashAndCancelMessages). -/
theorem witness_backwash : (readUnit 2, readUnit 0) = (some .f, some .a) ∧
    (Listens calm ∧ calm.run.ctx = none ∧ entryOf .a calm = none ∧ calm.run.holds = []) ∧
    (let s := running { ctxA 9 .running with unit := .f } calm
     Listens s ∧ s.run.ctx.map (·.unit) = some .f ∧ isAt .flt (restPosition .f) s = true) := by decide

/-- CANCEL_RUN of a run in FINISHING, of one in its BRINE step, and of an entry (BackwashAndCancelMessages). -/
theorem witness_cancel :
    (let c := { ctxA 1 .finishing with slot := none, outcome := some .done }
     Listens (running c calm) ∧ c.unit = .a ∧ c.state = .finishing) ∧
    (let c := { ctxA 2 .running with elapsed := 1800, dissolved := some 2539 }
     Listens (running c calm) ∧ c.state ≠ .finishing ∧ isAt .soft (restPosition .a) (running c calm) = false ∧
      (currentStep c (running c calm)).map (fun st => (st.phase, st.amount)) = some (.brine, 3600)) ∧
    (let s := { bServes .waiting calm with queue.entries := waiting }
     Listens s ∧ s.run.ctx.map (·.unit) ≠ some .a ∧ entryOf .a s = some waiting[1] ∧ entryOf .f s = some waiting[0] ∧
      (tankRec .a s).role = .waiting) := by decide

/-- V_FLT at SERVICE and away, a high count at 3 and below, a latched trigger (FilterCountsAndTriggers). -/
theorem witness_filter : isAt .flt 0 calm = true ∧
    isAt .flt 0 { calm with valves.flt.status := .atPos 1 } = false ∧
    (let s := { calm with filter.highCount := 3 }
     AtRest s ∧ 3 ≤ s.filter.highCount ∧ s.filter.trigger = none) ∧
    (AtRest calm ∧ calm.filter.highCount < 3) ∧
    (let s := { calm with filter.trigger := some .wanted }
     AtRest s ∧ s.filter.trigger ≠ none) := by decide

/-- A request for a valve in FAULT, with a move of it, AT its target, and free to join (MoveRequestArrives). -/
theorem witness_request :
    ((softAt .fault calm).signals = [] ∧ isFault .soft (softAt .fault calm) = true) ∧
    (let s := driving (softMove .drive false) (softAt .moving calm)
     s.signals = [] ∧ isFault .soft s = false ∧ s.valves.grant = some (softMove .drive false) ∧
      (softMove .drive false).valve = .soft ∧ (softMove .drive false).target = 1) ∧
    (calm.signals = [] ∧ calm.valves.grant = none ∧ isAt .soft 0 calm = true ∧ isAt .soft 1 calm = false ∧
      isFault .soft calm = false) := by decide

/-- V_SOFT with a request for SRV_B that waits for the driver. -/
def asking : State := { calm with valves.soft.waiting := some ⟨1, .run, .runController, 0⟩ }

/-- A request the arbiter takes, with each way its move begins; a driver that is taken; nothing to grant
(ArbiterGrantsTheDriver). -/
theorem witness_arbiter :
    (AtRest asking ∧ asking.valves.grant = none ∧
      (valveRec .soft asking).waiting = some ⟨1, .run, .runController, 0⟩ ∧
      regimeGrants asking.supply.regime .run = true ∧ isAt .soft 1 asking = false ∧
      (valveRec .shut asking).waiting = none ∧ (valveRec .flt asking).waiting = none) ∧
    (moveDirection .soft (.pos 0) 1 = (.forward, 1) ∧ (valveRec .soft asking).lastDir = some .reverse) ∧
    moveDirection .soft (.pos 2) 1 = (.reverse, 1) ∧
    (let s := driving (softMove .drive false) (softAt .moving calm)
     AtRest s ∧ s.valves.grant ≠ none) ∧
    (AtRest calm ∧ (valveRec .shut calm).waiting = none ∧ (valveRec .flt calm).waiting = none ∧
      (valveRec .soft calm).waiting = none) ∧
    (0 < 10 ∧ 9 < 10 ∧ 0 ≠ 9) := by decide

/-- SETTLE of a first attempt without a requester, outranked, and free to drive; SETTLE of a retry; another phase
(SettleEndsInRecheck). -/
theorem witness_settle :
    (let s := driving (softMove .settle false) calm
     AtRest s ∧ s.valves.grant = some (softMove .settle false) ∧ regimeGrants s.supply.regime .run = true ∧
      (valveRec .shut s).waiting = none ∧ Reading.pos 0 ≠ .pos 1) ∧
    (let g := { softMove .settle false with req := none }
     AtRest (driving g calm) ∧ g.phase = .settle ∧ g.retry = false ∧ g.req = none) ∧
    (let s := driving (softMove .settle false) { calm with
       valves.shut.waiting := some ⟨1, .shutClose, .shutoffControl, 1⟩ }
     AtRest s ∧ (valveRec .shut s).waiting = some ⟨1, .shutClose, .shutoffControl, 1⟩ ∧
      moveRank .run < moveRank .shutClose) ∧
    (let s := driving (softMove .settle true) (softAt .moving calm)
     AtRest s ∧ (softMove .settle true).phase = .settle ∧ (softMove .settle true).retry = true) ∧
    (AtRest (driving (softMove .drive false) (softAt .moving calm)) ∧ (softMove .drive false).phase ≠ .settle) := by
  decide

/-- DRIVE, EXTEND of both attempts and HOLD, with readings that confirm and that do not (DriveExtendAndHoldEnd). -/
theorem witness_drive :
    (let s := driving (softMove .drive false) (softAt .moving calm)
     AtRest s ∧ s.valves.grant = some (softMove .drive false)) ∧
    (let s := driving (softMove .extend false) (softAt .moving calm)
     AtRest s ∧ s.valves.grant = some (softMove .extend false) ∧ Reading.span 0 ≠ .pos (softMove .extend false).target) ∧
    (let s := driving (softMove .extend true) (softAt .moving calm)
     AtRest s ∧ (softMove .extend true).retry = true ∧ (valveRec .soft s).status = .moving) ∧
    (let s := driving (softMove .hold false) (softAt .moving calm)
     AtRest s ∧ (softMove .hold false).phase = .hold ∧ (valveRec .soft s).status = .moving) := by decide

/-- A valve in FAULT, with and without a run of it, and one that is not (ClearFaultReissuesTheStandingTarget). -/
theorem witness_clear :
    (let s := softAt .fault calm
     Listens s ∧ readValve 2 = some .soft ∧ (valveRec .soft s).status = .fault ∧ s.valves.grant = none ∧
      (valveRec .soft s).waiting = none ∧ s.run.ctx = none) ∧
    (let s := softAt .fault (running (ctxA 1 .finishing) calm)
     Listens s ∧ (valveRec .soft s).status = .fault ∧ s.run.ctx = some (ctxA 1 .finishing) ∧
      (ctxA 1 .finishing).unit.valve = .soft) ∧
    (let s := { shutAt .fault calm with alarm := true }
     Listens s ∧ readValve 0 = some .shut ∧ (valveRec .shut s).status = .fault) ∧
    (let s := { calm with valves.flt.status := .fault }
     Listens s ∧ readValve 1 = some .flt ∧ (valveRec .flt s).status = .fault ∧ s.run.ctx = none) ∧
    (Listens calm ∧ readValve 3 = none ∧ (valveRec .flt calm).status ≠ .fault) := by
  refine ⟨by decide, by decide, by decide, by decide, by decide⟩

/-- A fixture that takes rates 10 to 100 at every hour. -/
def sprinkler : Fixture :=
  { rateLow := 10, rateHigh := 100, maxMinutes := 90, maxLitres := 900, hours := BitVec.allOnes 24, awayAllowed := false }

/-- An episode at and below 30 still samples, and one at age 30 with and without a fixture that matches
(EpisodeEndsAndIsMatched). -/
theorem witness_episode :
    (let s := { calm with leak.episode := some (draw 100 900 30), leak.state := .suspect }
     AtRest s ∧ s.leak.episode = some (draw 100 900 30) ∧ 30 ≤ (draw 100 900 30).still) ∧
    (draw 100 900 29).still < 30 ∧
    (let s := { calm with
       leak.episode := some (draw 30 3000 0), leak.fixtures := some sprinkler :: List.replicate 15 none }
     AtRest s ∧ (draw 30 3000 0).age = 30 ∧ (draw 30 3000 0).average = none ∧
      slotOf s.leak.fixtures 1 = some sprinkler ∧ sprinkler.rateLow ≤ 3000 / 50 ∧ 3000 / 50 ≤ sprinkler.rateHigh ∧
      ¬5050 / 50 ≤ sprinkler.rateHigh ∧ s.time.clock.clockSet = false ∧ sprinkler.hours = BitVec.allOnes 24 ∧
      s.leak.away = false) ∧
    (draw 31 3000 0).age ≠ 30 := by decide

/-- Each trip at its condition and one short of it, and an episode at 80 % (LimitsTripOrWarn). -/
theorem witness_limits :
    (let e := draw 10 400000 0
     AtRest { calm with leak.episode := some e } ∧ e.volumeLimit * 1000 ≤ e.volume) ∧
    (let e := draw 3600 399999 0
     AtRest { calm with leak.episode := some e } ∧ e.volume < e.volumeLimit * 1000 ∧ e.durationLimit * 60 ≤ e.age) ∧
    (let e := draw 3599 320000 0
     e.volume < e.volumeLimit * 1000 ∧ e.age < e.durationLimit * 60 ∧ e.volumeLimit * 800 ≤ e.volume ∧
      e.prewarned = false) ∧
    (let e := draw 2879 319999 0
     ¬(e.volumeLimit * 800 ≤ e.volume ∨ e.durationLimit * 48 ≤ e.age)) ∧
    (let s := { calm with leak.burst := some 0, leak.state := .suspect }
     AtRest s ∧ s.leak.burst = some 0) ∧
    (let s := { calm with leak.state := .probation, leak.high := 5 }
     AtRest s ∧ s.leak.state = .probation ∧ 5 ≤ s.leak.high) ∧
    (AtRest calm ∧ calm.leak.episode = none ∧ calm.leak.burst ≠ some 0 ∧ calm.leak.state ≠ .probation ∧
      calm.leak.closeSet = {}) ∧
    (let s := shutAt (.atPos 1) { calm with leak.closeSet := { commanded := true }, leak.burst := some 0 }
     AtRest s ∧ (valveRec .shut s).status = .atPos 1 ∧ s.leak.closeSet ≠ {} ∧ s.leak.closeSet.leak = false) := by
  decide

/-- The record of a leak that trips and is not acknowledged. -/
def leaking (st : LeakState) (acknowledged : Bool) (s : State) : State :=
  { s with
    leak.state := st, leak.acknowledged := acknowledged, leak.closeSet := { s.leak.closeSet with leak := true }
    leak.record := some ⟨.burst, 0, {}, 18000, none⟩, alarm := !acknowledged }

/-- The isolation, the end of probation, the passing valve and the drip, at their counts and short of them
(LeakMomentsAreTaken). -/
theorem witness_moments :
    (let s := shutAt (.atPos 1) (leaking .isolating false calm)
     AtRest s ∧ s.leak.state = .isolating ∧ (valveRec .shut s).status = .atPos 1 ∧
      s.leak.record = some ⟨.burst, 0, {}, 18000, none⟩) ∧
    (let s := { calm with leak.state := .probation, leak.probation := 60, leak.high := 4 }
     AtRest s ∧ s.leak.state = .probation ∧ s.leak.high < 5 ∧ 60 ≤ s.leak.probation) ∧
    (let s := shutAt (.atPos 1) { calm with leak.passing := 30, leak.closeSet := { commanded := true } }
     AtRest s ∧ 30 ≤ s.leak.passing ∧ s.leak.passingFlag = false ∧ (valveRec .shut s).status = .atPos 1) ∧
    (let s := { calm with leak.drip := 86400, leak.longestRun := 1799 }
     AtRest s ∧ 86400 ≤ s.leak.drip) ∧
    (AtRest calm ∧ calm.leak.state ≠ .isolating ∧ calm.leak.state ≠ .probation ∧ calm.leak.passing < 30 ∧
      calm.leak.drip < 86400) := by decide

/-- SHUTOFF_OPEN at each condition of its table, and free of them (ShutoffMessages). -/
theorem witness_shutoff : (Listens calm ∧ calm.leak.closeSet = {}) ∧
    (let s := leaking .isolated false (shutAt (.atPos 1) calm)
     Listens s ∧ s.leak.closeSet.leak = true ∧ s.leak.acknowledged = false) ∧
    (let s := leaking .isolated true (shutAt (.atPos 1) { calm with loop.pods :=
       [{ address := 3, serial := 30, policy := .shutoff, reported := .wet, acknowledged := .wet }] })
     Listens s ∧ s.leak.closeSet.leak = true ∧ ∃ p ∈ s.loop.pods, p.policy = .shutoff ∧ p.reported = .wet) ∧
    (let s := leaking .isolated true (shutAt (.atPos 1) { calm with leak.closeSet := { dormant := true } })
     Listens s ∧ s.leak.acknowledged = true ∧ s.loop.pods = [] ∧ s.leak.closeSet.dormant = true) ∧
    (let s := { shutAt .fault (leaking .isolating true calm) with alarm := true }
     Listens s ∧ s.leak.acknowledged = true ∧ s.leak.closeSet.dormant = false ∧ (valveRec .shut s).status = .fault) ∧
    (let s := leaking .isolated true (shutAt (.atPos 1) calm)
     Listens s ∧ s.leak.closeSet.leak = true ∧ s.leak.acknowledged = true ∧ s.loop.pods = [] ∧
      s.leak.closeSet.dormant = false ∧ (valveRec .shut s).status ≠ .fault) := by
  refine ⟨by decide, by decide, by decide, by decide, by decide, by decide⟩

/-- Away mode stored, as it stands and changed; an episode extended once and twice; a leak that stands and none
(AwayExtendAndAcknowledge). -/
theorem witness_away : Listens calm ∧ readAway 0 = some true ∧ readAway 1 = some false ∧ calm.leak.away = false ∧
    calm.leak.episode = none ∧
    (let s := { calm with leak.episode := some (draw 10 900 0) }
     Listens s ∧ s.leak.episode = some (draw 10 900 0) ∧ (draw 10 900 0).extended = false ∧
      (draw 10 900 0).cls ≠ .fixture) ∧
    (let e := { draw 10 900 0 with extended := true, cls := .fixture }
     Listens { calm with leak.episode := some e } ∧ e.extended = true ∧ e.cls = .fixture) ∧
    (let s := leaking .isolating false calm
     Listens s ∧ s.leak.state = .isolating ∧ s.leak.acknowledged = false) ∧
    (calm.leak.state ≠ .isolating ∧ calm.leak.state ≠ .isolated) := by decide

/-- The fixture table with an empty slot, with none, and an id of each kind (FixtureTableMessages). -/
theorem witness_fixture : Listens calm ∧ calm.leak.fixtures.length = 16 ∧ slotOf calm.leak.fixtures 1 = none ∧
    (10#16).toNat ≤ (100#16).toNat ∧ (100#16).toNat < (101#16).toNat ∧ 16 < (17#8).toNat ∧ (16#8).toNat = 16 ∧
    (let s := { calm with leak.fixtures := List.replicate 16 (some sprinkler) }
     Listens s ∧ (∀ k ∈ List.range 16, slotOf s.leak.fixtures (k + 1) ≠ none) ∧
      slotOf s.leak.fixtures (16#8).toNat = some sprinkler) ∧
    slotOf calm.leak.fixtures (1#8).toNat = none ∧ (0#8).toNat < 1 := by decide

/-- A poll timer at 0 with and without a cycle in progress, a POLL in flight, a pod of three misses
(PollCycleReadsThePods). -/
theorem witness_poll :
    (let s := { wetFloor with loop.inFlight := none }
     AtRest s ∧ s.loop.pollTimer = 0 ∧ s.supply.regime ≠ .dormant ∧ s.loop.inFlight = none ∧
      (s.loop.pods.head?.map (·.address)) = some 3) ∧
    (AtRest wetFloor ∧ wetFloor.loop.inFlight = some (.poll 3) ∧ (podAt 3 wetFloor).isSome = true ∧
      (podAt 3 wetFloor).map (·.acknowledged) = some .dry) ∧
    (let s := { wetFloor with loop.inFlight := some (.poll 7) }
     AtRest s ∧ (podAt 7 s).map (·.misses) = some 2 ∧ (podAt 7 s).map (·.status) = some .active) ∧
    (let p : Pod := { address := 7, serial := 70, policy := .alarm, misses := 3 }
     let s := { calm with loop.pods := [] ++ p :: [] }
     AtRest s ∧ 3 ≤ p.misses ∧ p.status = .active) ∧
    (AtRest calm ∧ { calm with loop.pollTimer := 1 }.loop.pollTimer ≠ 0 ∧ calm.loop.pods = []) := by decide

/-- A part that listens for a pod, with this transaction in flight. -/
def enrolling (x : Option Transaction) (seconds : Nat) : State :=
  { wetFloor with loop.inFlight := x, loop.listen := ⟨true, .shutoff, seconds, none, false⟩ }

/-- A DISCOVER of a new pod and of one of the table, an ASSIGN, a listen at its end (EnrolmentTransactions). -/
theorem witness_enrol :
    (let s := enrolling (some .enrolDiscover) 1
     AtRest s ∧ s.supply.regime ≠ .dormant ∧ podOfSerial 99 s = none ∧ lowestFree s = some 1 ∧
      (podOfSerial 70 s).isSome = true ∧ ¬(s.loop.listen.running = true ∧ s.loop.listen.seconds = 0)) ∧
    (let s := enrolling (some (.enrolAssign ⟨99, 1⟩ false)) 1
     AtRest s ∧ s.loop.inFlight = some (.enrolAssign ⟨99, 1⟩ false)) ∧
    (let s := enrolling (some (.enrolAssign ⟨70, 7⟩ true)) 0
     AtRest s ∧ s.loop.inFlight = some (.enrolAssign ⟨70, 7⟩ true)) ∧
    (let s := enrolling none 0
     AtRest s ∧ s.loop.listen.running = true ∧ s.loop.listen.seconds = 0 ∧ s.loop.inFlight = none) ∧
    (AtRest calm ∧ calm.loop.listen.running = false) := by decide

/-- Recovery and release in flight, with a release at its third try (RecoveryAndReleaseTransactions). -/
theorem witness_recovery :
    (let s := { wetFloor with loop.inFlight := some .recoveryDiscover }
     AtRest s ∧ s.supply.regime ≠ .dormant ∧ (podOfSerial 70 s).isSome = true ∧ podOfSerial 99 s = none) ∧
    (let s := { wetFloor with loop.inFlight := some (.recoveryAssign ⟨70, 7⟩) }
     AtRest s ∧ s.loop.inFlight = some (.recoveryAssign ⟨70, 7⟩)) ∧
    (let s := { wetFloor with loop.inFlight := some (.release ⟨5, 1⟩), loop.releases := [⟨5, 1, 3⟩, ⟨5, 2, 0⟩] }
     AtRest s ∧ s.loop.inFlight = some (.release ⟨5, 1⟩) ∧
      ∀ r ∈ s.loop.releases, r.serial = 5 ∧ r.address = 1 → 3 ≤ r.tries) ∧
    (let s := { calm with loop.inFlight := some (.poll 9), loop.lastPolled := 9, loop.releases := [⟨5, 1, 0⟩, ⟨5, 2, 0⟩] }
     AtRest s ∧ podAt 9 s = none ∧ s.loop.stopping = false ∧ s.loop.pollsOver = false ∧ s.loop.pods = [] ∧
      s.loop.releases = ⟨5, 1, 0⟩ :: [⟨5, 2, 0⟩]) ∧
    (let s := { wetFloor with supply.regime := .dormant, loop.inFlight := some .recoveryDiscover }
     AtRest s ∧ s.supply.regime = .dormant) := by decide

/-- The pod table with a pod at the address, with none, full, and a listen that runs (PodTableMessages). -/
theorem witness_pods : Listens wetFloor ∧ readPolicy 0 = some .shutoff ∧ readPolicy 1 = some .alarm ∧
    readPolicy 2 = none ∧ (0#8).toNat < 1 ∧ 63 < (64#8).toNat ∧ (1 ≤ (63#8).toNat ∧ (63#8).toNat ≤ 63) ∧
    podAt (63#8).toNat wetFloor = none ∧ (podAt (7#8).toNat wetFloor).map (·.policy) = some .alarm ∧
    wetFloor.loop.listen.running = false ∧ wetFloor.loop.pods.length < 24 ∧
    (Listens (enrolling none 60) ∧ (enrolling none 60).loop.listen.running = true) ∧
    (let s := { calm with loop.pods := List.replicate 24 { address := 1, serial := 1, policy := .alarm } }
     Listens s ∧ s.loop.listen.running = false ∧ 24 ≤ s.loop.pods.length) ∧
    (let s := { calm with
       alarm := true, loop.pods := [{ address := 7, serial := 70, policy := .alarm, reported := .wet }] }
     Listens s ∧ s.leak.state = .watch ∧ (podAt 7 s).map (·.reported) = some .wet) := by decide

/-- A part under RESERVE, mains present or not. -/
def reserve (present : Bool) : State :=
  { calm with supply := { mainsPin := present, mainsPresent := present } }

/-- The sense input changed and as it stands, in each regime (RegimeFollowsMainsAndBattery). -/
theorem witness_regime :
    (AtRest calm ∧ calm.supply.mainsPresent = true ∧ calm.supply.regime = .mains) ∧
    (AtRest (running (ctxA 1 .running) calm) ∧ (ctxA 1 .running).state ≠ .finishing) ∧
    (let s := { reserve false with supply.regime := .dormant }
     AtRest s ∧ s.supply.mainsPresent = false ∧ s.supply.regime = .dormant) ∧
    held (inReset { kind := .pin }) = true := by decide

/-- The confirmation and the low count at their ends (RegimeFollowsMainsAndBattery). -/
theorem witness_confirm :
    (let s := { reserve true with supply.confirm := 5 }
     AtRest s ∧ s.supply.regime = .reserve ∧ s.supply.mainsPresent = true ∧ 5 ≤ s.supply.confirm) ∧
    (let s := { reserve false with supply.lowCount := 10 }
     AtRest s ∧ s.supply.closeWait = none ∧ 10 ≤ s.supply.lowCount ∧ s.settings.dormantAction = .close ∧
      (valveRec .shut s).status = .atPos 0 ∧ s.leak.closeSet = {}) ∧
    (let s := { shutAt (.atPos 1) (reserve false) with supply.lowCount := 10, settings.dormantAction := .hold }
     AtRest s ∧ s.settings.dormantAction = .hold ∧ (valveRec .shut s).status = .atPos 1) := by decide

/-- The close wait at its ends, and every count short of its own (RegimeFollowsMainsAndBattery). -/
theorem witness_closeWait :
    (let s := { reserve false with supply.closeWait := some 0 }
     AtRest s ∧ s.supply.closeWait = some 0) ∧
    (let s := { shutAt (.atPos 1) (reserve false) with supply.closeWait := some 60 }
     AtRest s ∧ s.supply.closeWait = some 60 ∧ (valveRec .shut s).status = .atPos 1) ∧
    (let s := { reserve true with supply.lowCount := 9, supply.confirm := 4 }
     AtRest s ∧ s.supply.lowCount < 10 ∧ s.supply.confirm < 5 ∧ s.supply.closeWait = none) := by decide

/-- A reset with and without a write in progress, a held one at the end of a write, a RESET of each option
(ResetsAreTakenOrHeld). -/
theorem witness_resets : held calm = false ∧ calm.store.writing = none ∧
    (let s := { calm with store.writing := some factoryImage }
     held s = false ∧ s.store.writing ≠ none ∧ s.resets.held = none) ∧
    (let s := { calm with store.writing := some factoryImage, resets.held := some { kind := .pin } }
     s.store.writing = some factoryImage ∧ s.resets.held = some { kind := .pin } ∧
      ({ kind := .pin } : ResetCall).option = .normal) ∧
    (Listens calm ∧ readResetOption 0 = some .normal ∧ readResetOption 1 = some .factory ∧
      readResetOption 2 = none ∧ calm.resets.linkDue = none) ∧
    (let s := { calm with resets.linkDue := some .normal }
     Listens s ∧ s.resets.linkDue = some .normal ∧ s.store.writing = none) ∧
    (let s := { calm with resets.linkDue := some .factory }
     Listens s ∧ s.resets.linkDue = some .factory ∧ s.store.writing = none ∧ s.resets.held = none) := by decide

/-- A part with no image after a SUPPLY reset (ColdRestartGivesTheResetState). -/
theorem witness_cold :
    let s := { inReset { kind := .supply } with
      valves.shut.sense := .span 0, valves.flt.sense := .span 0, valves.soft.sense := .span 0 }
    s.resets.inReset = some { kind := .supply } ∧ s.store.image = none ∧ s.pending = [] ∧ s.supply.mainsPin = true ∧
      s.valves.shut.sense = .span 0 ∧ s.valves.flt.sense = .span 0 ∧ s.valves.soft.sense = .span 0 ∧ s.freeSeed = 0 := by
  decide

/-- An image without a run, and with a run of each kind of restart (RestartRestoresImageAndRun). -/
theorem witness_restart :
    (let s := { inReset { kind := .brownout } with store.image := some factoryImage }
     s.resets.inReset = some { kind := .brownout } ∧ s.store.image = some factoryImage ∧ factoryImage.copy = none) ∧
    (let c := { ctxA 3 .running with restarts := 1 }
     ({ copy := some c } : Image).copy = some c ∧ c.state ≠ .finishing ∧ c.restarts + 1 < 3) ∧
    (let c := { ctxA 3 .running with restarts := 2 }
     c.state ≠ .finishing ∧ 3 ≤ c.restarts + 1) ∧
    ({ ctxA 3 .finishing with outcome := some .done }).state = .finishing := by decide

/-- A message in reset, in DORMANT, and during a reply (LinkTakesOrRefusesMessages). -/
theorem witness_messages : isMessage (.identify 7) = true ∧ held (inReset { kind := .pin }) = true ∧
    (let s := { calm with supply.regime := .dormant }
     s.supply.regime = .dormant) ∧
    (let s := { calm with link.state := .answering }
     AtRest s ∧ s.supply.regime ≠ .dormant ∧ s.link.state = .answering) ∧ Listens calm := by decide

/-- The receiver in HUNT, in COLLECTING at its first and at a later byte, during a reply and not; a bad length and a bad
CRC (ReceiverJudgesFrames). -/
theorem witness_receiver : (AtRest calm ∧ calm.supply.regime ≠ .dormant ∧ calm.link.rx = .hunt ∧
      calm.link.state = .listening) ∧
    (let s := { calm with link.rx := .collecting }
     AtRest s ∧ s.link.rx = .collecting ∧ s.link.collected = []) ∧
    (let s := { calm with link.rx := .collecting, link.collected := [1], link.state := .answering }
     AtRest s ∧ s.link.collected ≠ [] ∧ s.link.state = .answering) ∧
    96 < (97#8).toNat ∧ [(0x42 : Byte)].length ≤ 96 := by decide

/-- A complete frame with a wrong CRC (ReceiverJudgesFrames). -/
theorem witness_badCrc : Link.judge [0, 1, 7, 0, 0] = .badCrc ∧
    (((Link.frame 1 7 []).drop 1).drop 3 ≠ [0, 0]) := by decide +kernel

/-- A listening part, a section code and a parameter id of each kind, a slot and an address of each kind
(ReadingMessagesAnswerTheirRecords). -/
theorem witness_queries : Listens wetFloor ∧ (statusSection 5 wetFloor).isSome = true ∧ 5 < (6#8).toNat ∧
    paramOfId 0x2B = some .dormantAction ∧ paramOfId 0 = none ∧ paramOfId 0x2C = none ∧
    (1 ≤ (16#8).toNat ∧ (16#8).toNat ≤ 16) ∧ 16 < (17#8).toNat ∧ (podAt (12#8).toNat wetFloor).isSome = true ∧
    podAt (63#8).toNat wetFloor = none ∧ 63 < (64#8).toNat := by decide

/-- A pending set in order, and listening parts with events and without (EventsAreCountedReadAndMasked). -/
theorem witness_events : EventSetOrdered State.reset ∧ Listens State.reset ∧ State.reset.link.events ≠ [] ∧
    Listens calm ∧ calm.link.events = [] := by decide

/-- A parameter id of the table and none, a value at each limit of its range and past it, a value already held
(SetParamClampsAndStores). -/
theorem witness_param : Listens calm ∧ paramOfId 0 = none ∧ SettingsInRange calm.settings ∧
    paramOfId 0x01 = some .supplyK ∧ clampParam .supplyK 2000 = 2000 ∧ clampParam .supplyK 2001 = 2000 ∧
    clampParam .supplyK 0 = 1 ∧ settingValue .supplyK calm.settings = 450 ∧ clampParam .supplyK 450 = 450 ∧
    paramOfId 0x29 = some .freezeThreshold ∧ paramOfId 0x2B = some .dormantAction ∧ (2#32).toInt = 2 ∧
    (1#32).toInt = 1 := by decide

/-- What every step keeps holds of a part at rest and of one with a run (the six statements on every step). -/
theorem witness_laws :
    (OneServes calm.bed.tankA calm.bed.tankB ∧ LeakLaw calm ∧ LinesFollow calm ∧
      calm.signals = [] ∧ EventSetOrdered calm ∧ ClockInRange calm.time.clock ∧
      SettingsInRange calm.settings) ∧
    (let s := running (ctxA 1 .running) calm
     OneServes s.bed.tankA s.bed.tankB ∧ s.queue.grant = s.run.ctx.map (·.unit) ∧
      EntriesAgree s.queue.entries (s.run.ctx.map (·.unit)) ∧ LeakLaw s ∧ LinesFollow s) := by decide

/-- The laws that speak of images too hold of a part at rest. -/
theorem witness_inRange : OneTankServes calm ∧ QueueAgreesWithRun calm ∧ MovingHoldsDriver calm ∧
    AllInRange calm := by
  refine ⟨⟨by decide, fun _ h => (nomatch h), fun _ h => (nomatch h)⟩,
    ⟨by decide, fun _ h => (nomatch h), by decide, fun _ h => (nomatch h), fun _ h => (nomatch h)⟩, ?_,
    ⟨by decide, by decide, by decide, by decide, fun _ h => (nomatch h), fun _ h => (nomatch h)⟩⟩
  exact Or.inr (fun v => by cases v <;> decide)

/-! ## Witnesses of the clauses on seconds, samples, readings and received bytes -/

/-- The last second of an hour and of a day, another second, and an order of readers without repeats
(SecondAdvancesClockAndDay). -/
theorem witness_second_hours : [TickReader.loop, .brine].Nodup ∧ ClockInRange ⟨0, 5, 59, 59, true⟩ ∧
    ClockInRange ⟨0, 23, 59, 59, true⟩ ∧ ClockInRange ⟨0, 23, 59, 58, true⟩ := by decide

/-- A reading at a rail of a channel with two such in a row, and one that has had none (ReadingUpdatesItsChannel). -/
theorem witness_reading_third :
    (let s := { calm with analog.level := { value := some 640, valid := true, saturated := 2, lastGood := some 640 } }
     held s = false ∧ (channelRec .level s).saturated = 2 ∧ (rails .level).2 ≤ 1500) ∧
    (channelRec .level calm).saturated ≠ 2 := by decide

/-- Readings of an armed serving tank that qualify, at a deviation of 1 and of 2, one within the trip delta, and one of
a tank that is not evaluated (ProbeTripAndEnableProbe). -/
theorem witness_probe_readings :
    (let s := { probing with analog.probeB := { valid := true, lastGood := some 224 } }
     AtRest s ∧ (tankRec .b s).deviation = 2 ∧ (tankRec .b s).role = .inService ∧
      (tankRec .b s).probeEnabled = true ∧ (tankRec .b s).probeArmed = true ∧ (channelRec .probeB s).valid = true ∧
      (channelRec .probeB s).lastGood = some 224 ∧ s.settings.tripDelta ≤ max 224 256 - min 224 256 ∧
      s.meter.latest = some { sample 190 0 0 100 with household := 190 } ∧ (tankRec .a s).deviation < 3 ∧
      (tankRec .a s).role ≠ .inService ∧ ¬s.settings.tripDelta ≤ max 255 256 - min 255 256) ∧
    { probing.bed.tankB with deviation := 1 }.deviation < 2 := by decide

/-- A LEVEL channel that is invalid, one that is valid while a BRINE step runs and while none does
(LevelReadingIsReconciled). -/
theorem witness_level_reading : calm.analog.level.valid = false ∧
    (let s := { running { ctxA 2 .running with posReached := true } calm with analog.level.valid := true }
     s.analog.level.valid = true ∧ brineStepRunning s = true) ∧
    (let s := { calm with analog.level := { valid := true, saturated := 1, lastGood := some 640 } }
     s.analog.level.valid = true ∧ brineStepRunning s = false ∧ s.analog.level.lastGood = some 640) := by decide

/-- A step that a sample brings to its end, and runs that a sample does not advance (StepEndFollowsTheLink). -/
theorem witness_step_samples :
    (let c := { ctxA 1 .running with elapsed := 599 }
     let s := running c calm
     let st : Machine.Step := ⟨.backwash, .time, 600, none, true, some 2⟩
     AtRest s ∧ s.run.ctx = some c ∧ currentStep c s = some st ∧ isAt .shut 0 s = true ∧
      stepReached (countStep c st (sample 200 200 0 100)) st = true ∧ stepReached c st = false) ∧
    ((ctxA 1 .positioning).state = .positioning ∧ (ctxA 1 .finishing).state = .finishing) := by decide

/-- A running step whose demand counts toward a hold and one whose does not, and a held run short of its release
(HoldsBeginAndEnd). -/
theorem witness_hold_samples :
    (let c := ctxA 1 .running
     let s := running c calm
     let st : Machine.Step := ⟨.backwash, .time, 600, none, true, some 2⟩
     AtRest s ∧ currentStep c s = some st ∧ stepReached (countStep c st (sample 900 0 0 300)) st = false ∧
      st.holdAllowed = true ∧ 0 < c.budget ∧ stepPosition c.unit st.phase ≠ restPosition c.unit ∧
      s.settings.holdThreshold ≤ 300 ∧ ¬s.settings.holdThreshold ≤ 10 ∧ c.holdCount < 9) ∧
    (let c := { ctxA 1 .holding with releaseCount := 58 }
     AtRest (running c calm) ∧ 10 < (running c calm).settings.holdThreshold ∧ min 60 (c.releaseCount + 1) < 60 ∧
      1 < c.budget) := by decide

/-- A suspended run that a sample brings to its limit, and one short of it (SuspendedRunResumesOrIsAborted). -/
theorem witness_suspended_samples :
    (let c := { ctxA 1 .suspended with susPower := true, powerSuspended := 86399 }
     AtRest (running c calm) ∧ c.state = .suspended ∧ ¬(c.powerSuspended + 1 < 24 * 3600)) ∧
    (let c := { ctxA 1 .suspended with susPower := true, powerSuspended := 86398 }
     AtRest (running c calm) ∧ c.powerSuspended + 1 < (running c calm).settings.powerLimit * 3600) := by decide

/-- OPTIONAL entries one second short of 48 hours and at them with this second (QueueOrderAgingAndHeldUnits). -/
theorem witness_queue_second : held calm = false ∧
    (∀ e ∈ [{ waiting[1] with age := 172798 }], e.cls = .optional → e.age + 1 < 172800) ∧
    ¬({ waiting[1] with age := 172799 }.age + 1 < 172800) := by decide

/-- A sample that qualifies and one that does not; no trigger, and one that stands with F running, held and free
(FilterCountsAndTriggers). -/
theorem witness_filter_samples :
    (let s := { calm with
       analog := { pIn := { valid := true, lastGood := some 430 }, pOut := { valid := true, lastGood := some 350 } } }
     let x := sample 100 0 0 400
     s.filter.state = .inService ∧ isAt .flt 0 s = true ∧ 50 ≤ x.rate ∧ x.rate ≤ 400 ∧ x.drain = 0 ∧ x.refill = 0 ∧
      s.analog.pIn.valid = true ∧ s.analog.pOut.valid = true ∧ ¬(sample 100 0 0 401).rate ≤ 400) ∧
    standingTrigger calm = none ∧
    (let s := { calm with filter.trigger := some .wanted }
     standingTrigger s = some (.wanted, .filterDp) ∧ s.run.ctx.map (·.unit) ≠ some .f ∧ s.run.holds = []) ∧
    (let s := { running { ctxA 9 .running with unit := .f } calm with filter.trigger := some .required }
     standingTrigger s = some (.required, .filterDp) ∧ s.run.ctx.map (·.unit) = some .f) ∧
    (let s := { calm with filter.days := 65535, run.holds := [⟨.f, .optional, .valveClear⟩] }
     standingTrigger s = some (.optional, .filterDays) ∧ ∃ h ∈ s.run.holds, h.unit = .f) := by decide

/-- A sample that begins an episode and one that does not; an episode that a sample ends, matches and goes on with
(EpisodeEndsAndIsMatched). -/
theorem witness_episode_samples :
    (calm.leak.episode = none ∧ calm.leak.state = .watch ∧ calm.settings.trickle ≤ 100 ∧ 0 < calm.settings.trickle) ∧
    (let s := { calm with leak.episode := some (draw 100 900 29) }
     AtRest s ∧ 30 ≤ min 30 ((draw 100 900 29).still + 1)) ∧
    (let s := { calm with leak.episode := some (draw 29 900 0) }
     AtRest s ∧ min 30 ((draw 29 900 0).still + 1) < 30 ∧ (draw 30 900 0).age ≠ 29) := by decide

/-- The burst confirmation begun, counted down, at its last sample and ended; an episode at a limit, at 80 % and short
of it (LimitsTripOrWarn). -/
theorem witness_burst_samples : held calm = false ∧ calm.leak.state = .watch ∧ calm.leak.burst = none ∧
    calm.settings.burstRate ≤ 450 ∧ 10 < calm.settings.burstRate ∧
    (let s := { calm with leak.burst := some 2, leak.state := .suspect }
     held s = false ∧ s.leak.state = .suspect ∧ s.leak.burst = some 2) ∧
    (let s := { calm with leak.burst := some 1, leak.state := .suspect }
     held s = false ∧ s.leak.burst = some 1) ∧
    ¬((leaking .isolating false calm).leak.state = .watch ∨ (leaking .isolating false calm).leak.state = .suspect) := by
  decide

/-- The probation, passing and drip counts at their last sample and short of it, each with V_SHUT where it counts and
elsewhere (LeakMomentsAreTaken). -/
theorem witness_moment_samples :
    (let s := { calm with leak.state := .probation, leak.probation := 59, leak.high := 4 }
     held s = false ∧ s.leak.state = .probation ∧ isAt .shut 0 s = true ∧
      (min 5 (s.leak.high + 1) = 5 ∧ s.settings.probationRate ≤ 450) ∧ ¬s.settings.probationRate ≤ 0) ∧
    (let s := shutAt .moving { calm with leak.state := .probation, leak.probation := 58 }
     s.leak.state = .probation ∧ isAt .shut 0 s = false ∧ s.leak.probation < 59) ∧
    (let s := shutAt (.atPos 1) { calm with leak.passing := 29, leak.closeSet := { commanded := true } }
     held s = false ∧ isAt .shut 1 s = true ∧ ¬100 < s.settings.trickle ∧ s.leak.passing < 30) ∧
    (isAt .shut 1 calm = false ∧ calm.leak.drip < 86399 ∧
      min (calm.settings.dripGap * 60) (calm.leak.quietRun + 1) ≠ calm.settings.dripGap * 60) ∧
    (let s := { calm with leak.quietRun := calm.settings.dripGap * 60 - 1, leak.drip := 86399 }
     held s = false ∧ min (s.settings.dripGap * 60) (s.leak.quietRun + 1) = s.settings.dripGap * 60) := by decide

/-- Away mode that goes on, and off in a quiet hour and in another, with an episode open, extended and not
(AwayExtendAndAcknowledge). -/
theorem witness_away_limits :
    (let s := { calm with leak.episode := some (draw 10 900 0) }
     Listens s ∧ s.leak.away ≠ true ∧ (draw 10 900 0).cls ≠ .fixture) ∧
    (let s := { calm with
       leak.away := true, leak.episode := some { draw 10 900 0 with cls := .away, extended := true } }
     Listens s ∧ s.leak.away ≠ false ∧ quietNow s = false) ∧
    (let s := { calm with
       leak.away := true, leak.episode := some { draw 10 900 0 with cls := .away }
       time.clock := ⟨0, 5, 0, 0, true⟩ }
     Listens s ∧ s.leak.away ≠ false ∧ quietNow s = true) := by decide

/-- An away byte above 1 (FixtureTableMessages). -/
theorem witness_fixture_away : 1 < (2#8).toNat ∧ (1#8).toNat ≤ 1 := by decide

/-- A poll timer that counts and one that expires with this second; a POLL with pods above it, stopped and not, and in
DORMANT (PollCycleReadsThePods). -/
theorem witness_poll_cycle :
    (let s := { wetFloor with loop.pollTimer := 10 }
     held s = false ∧ s.supply.regime ≠ .dormant ∧ 1 < s.loop.pollTimer ∧ ¬1 < { s with loop.pollTimer := 1 }.loop.pollTimer) ∧
    (held wetFloor = false ∧ wetFloor.loop.inFlight = some (.poll 3) ∧ wetFloor.loop.stopping = false ∧
      wetFloor.loop.pollsOver = false ∧ wetFloor.loop.lastPolled = 3 ∧
      wetFloor.loop.pods = [wetFloor.loop.pods[0]] ++ wetFloor.loop.pods[1] :: [wetFloor.loop.pods[2]] ∧
      wetFloor.loop.pods[0].address ≤ 3 ∧ 3 < wetFloor.loop.pods[1].address) ∧
    (let s := { wetFloor with loop.stopping := true }
     held s = false ∧ s.loop.stopping = true ∧ s.loop.pods = wetFloor.loop.pods[0] :: wetFloor.loop.pods.drop 1 ∧
      0 < wetFloor.loop.pods[0].address) ∧
    (let s := { wetFloor with supply.regime := .dormant, loop.stopping := true }
     held s = false ∧ s.supply.regime = .dormant ∧ s.loop.inFlight = some (.poll 3)) ∧
    ({ wetFloor with loop.inFlight := none }.loop.inFlight = none) := by decide

/-- A listen that counts, one whose seconds are spent while its DISCOVER is in flight, one that does not run, and both
transactions in DORMANT (EnrolmentTransactions). -/
theorem witness_enrol_seconds :
    (held (enrolling none 60) = false ∧ 1 < (enrolling none 60).loop.listen.seconds) ∧
    (let s := enrolling (some .enrolDiscover) 0
     AtRest s ∧ s.supply.regime ≠ .dormant ∧ podOfSerial 99 s = none ∧ lowestFree s ≠ none ∧
      s.loop.listen.running = true ∧ s.loop.listen.seconds = 0) ∧
    calm.loop.listen.running = false ∧
    (let s := { enrolling (some .enrolDiscover) 1 with supply.regime := .dormant }
     AtRest s ∧ s.supply.regime = .dormant) ∧
    (let s := { enrolling (some (.enrolAssign ⟨99, 1⟩ false)) 1 with supply.regime := .dormant }
     AtRest s ∧ s.loop.inFlight = some (.enrolAssign ⟨99, 1⟩ false)) := by decide

/-- The last POLL of a cycle with no release to send: a listen with and without a candidate, one that has run into
DORMANT, and none with another pod SILENT, since DORMANT, and with no pod (EnrolmentTransactions). -/
theorem witness_enrol_chosen :
    let last := fun (l : Listen) =>
      { wetFloor with loop.inFlight := some (.poll 40), loop.lastPolled := 40, loop.listen := l }
    (∀ l ∈ [{ running := true, candidate := some ⟨99, 1⟩ }, { running := true }, { running := true, muted := true }, {}],
      let s := last l
      held s = false ∧ s.supply.regime ≠ .dormant ∧ s.loop.inFlight = some (.poll 40) ∧ s.loop.stopping = false ∧
        s.loop.pollsOver = false ∧ s.loop.closingOver = false ∧ (∀ p ∈ s.loop.pods, p.address ≤ s.loop.lastPolled) ∧
        s.loop.releases = [] ∧ s.loop.firstSinceDormant = false) ∧
    ({ last {} with loop.pods := [{ address := 7, serial := 70, policy := .alarm, status := .silent }] }.loop.pods.any
      (fun p => p.address != 40 && p.status == LoopStatus.silent)) = true ∧
    ({ last {} with loop.firstSinceDormant := true }.loop.firstSinceDormant = true) ∧
    ({ last {} with loop.pods := [] }.loop.pods = []) := by decide

/-- A recovery ASSIGN and a release in DORMANT (RecoveryAndReleaseTransactions). -/
theorem witness_recovery_dormant :
    (let s := { wetFloor with supply.regime := .dormant, loop.inFlight := some (.recoveryAssign ⟨70, 7⟩) }
     AtRest s ∧ s.supply.regime = .dormant ∧ s.loop.inFlight = some (.recoveryAssign ⟨70, 7⟩)) ∧
    (let s := { wetFloor with
       supply.regime := .dormant, loop.inFlight := some (.release ⟨5, 1⟩), loop.releases := [⟨5, 1, 1⟩] }
     AtRest s ∧ s.supply.regime = .dormant ∧ s.loop.inFlight = some (.release ⟨5, 1⟩)) := by decide

/-- A second that confirms the mains and one that does not, a close wait that goes on and one at its end; BATT readings
that count as low, that do not, and that are not tested (RegimeFollowsMainsAndBattery). -/
theorem witness_regime_seconds :
    (let s := { reserve true with supply.confirm := 4 }
     held s = false ∧ s.supply.regime = .reserve ∧ s.supply.mainsPresent = true ∧ ¬s.supply.confirm < 4) ∧
    (reserve true).supply.confirm < 4 ∧ ¬(calm.supply.regime = .reserve) ∧ calm.supply.closeWait = none ∧
    (let s := { reserve false with supply.closeWait := some 60 }
     held s = false ∧ s.supply.closeWait = some 60 ∧ 1 < 60) ∧
    (let s := { reserve false with supply.lowCount := 9 }
     held s = false ∧ s.supply.mainsPresent = false ∧ s.supply.closeWait = none ∧ s.analog.batt.valid = false) ∧
    (let s := { reserve false with analog.batt := { valid := true, lastGood := some 100 } }
     s.analog.batt.lastGood = some 100 ∧ 100 < s.settings.dormantThreshold ∧ s.supply.lowCount < 9) ∧
    (let s := { reserve false with analog.batt := { valid := true, lastGood := some 15000 } }
     s.analog.batt.valid = true ∧ ¬15000 < s.settings.dormantThreshold) := by decide

/-- An image whose entries are of different units and whose serving tank keeps its grade, one whose does not
(RestartRestoresImageAndRun). -/
theorem witness_restart_grade :
    (let s := { inReset { kind := .brownout } with store.image := some { factoryImage with entries := waiting } }
     s.resets.inReset = some { kind := .brownout } ∧ (waiting.map (·.unit)).Nodup ∧
      (after .restart s).queue.entries = waiting ∧
      urgencyGrade factoryImage.tankA.remaining (after .restart s).bed.reserve = factoryImage.tankA.urgency ∧
      factoryImage.copy = none ∧ factoryImage.tankA.role = .inService) ∧
    (∀ e ∈ waiting, ∀ h ∈ [(⟨.b, .wanted, .valveClear⟩ : RequeueHold)], e.unit ≠ h.unit) := by decide

/-- A message for a part in HUNT, and for one that collects a frame that begins as its own does, and one that does not;
a reply that is being sent with nothing collected (LinkTakesOrRefusesMessages). -/
theorem witness_frames : isMessage (.identify 7) = true ∧ Instr.wf (.identify 7) = true ∧ calm.link.rx = .hunt ∧
    Link.requestOf (.identify 7) = some ⟨1, 7, []⟩ ∧
    (let s := { calm with link.rx := .collecting, link.collected := [0, 1] }
     AtRest s ∧ s.link.rx = .collecting ∧ [0xC3, 0, 1] <+: (0xC3 :: 0 :: 1 :: 7 :: ([] : List Byte))) ∧
    ¬([0xC3, 0, 2] <+: (0xC3 :: 0 :: 1 :: 7 :: ([] : List Byte))) ∧
    (let s := { calm with link.state := .answering }
     AtRest s ∧ Unoccupied s) := by decide

/-- What each byte of a frame makes of it, and a length above 96 (ReceiverJudgesFrames). -/
theorem witness_judgements : Link.judge ([0, 1, 7, 0] ++ [0]) = .badCrc ∧ Link.judge ([0, 1] ++ [7]) = .notAFrame ∧
    Link.judge ([] ++ [97]) = .badLengthByte ∧
    Link.judge ((Link.frame 1 7 []).drop 1) = .accepted := by decide +kernel

/-! ## Witnesses of the clauses on what an action sets out -/

/-- An order of readers without repeats that names the measures before the request, and one that does not
(SampleSplitsTheSupplyAndFormsTheRate). -/
theorem witness_sample_order :
    [SampleReader.queue, .filter, .run, .filterRequest].Nodup ∧ SampleReader.filter ∈ [SampleReader.queue, .filter, .run] ∧
    sampleOrder [.queue, .filter, .run, .filterRequest] = [.queue, .filter, .run, .filterRequest, .bed, .leak] ∧
    sampleOrder [.filterRequest, .run, .filter] = [.run, .filter, .bed, .leak, .filterRequest, .queue] := by decide

/-- A zero-drain count that this expiry brings to 60, and one that it does not (DrainMeterAndItsFault). -/
theorem witness_drain_fault :
    (let s := { rinsing with meter.drainCount := 0, meter.zeroDrain := 59 }
     drainUsing s = some (.a, .rinse) ∧ s.meter.drainCount = 0 ∧ s.meter.drainValid = true ∧ 59 ≤ s.meter.zeroDrain ∧
      (closeInterval s).2.link.events = [⟨.meterFault .drain .a .rinse, 1, 0⟩]) ∧
    { rinsing with meter.zeroDrain := 58 }.meter.zeroDrain < 59 := by decide

/-- A changeover that is answered while it is pending, and one of a SPENT tank (ChangeoverPassesTheService). -/
theorem witness_changeover_answer :
    (let s := softAt (.atPos 1) { calm with bed.changePending := true }
     s.bed.changePending = true ∧ (tankRec .b s).role = .standby ∧ servicePos .b = 1 ∧ AtRest s ∧
      OneServes s.bed.tankA s.bed.tankB ∧ isAt .soft 1 s = true) ∧
    (let s := { calm with bed.changePending := true, bed.tankA.urgency := .spent }
     (tankRec (servingTank s) s).urgency = .spent ∧ s.bed.hardWater = false) ∧
    (calm.bed.changePending = false ∧ (tankRec .a calm).urgency ≠ .spent) := by decide

/-- A run that a fault of its valve aborted, one that was cancelled before its BRINE was done and one after, one of a
wrong programme, and one whose finishing move is still needed (RunEndReportsAndReleases). -/
theorem witness_runEnd_aborted :
    (let c := { ctxA 2 .finishing with outcome := some (.aborted ⟨.valveFault, .valve .soft, 2, 1⟩) }
     let s := softAt .fault (running c calm)
     AtRest s ∧ s.run.ctx = some c ∧ (valveRec .soft s).status = .fault ∧ s.queue.entries = [] ∧
      (tankRec .a s).role = .regenerating ∧ c.brineDone = false ∧ isAt .soft (restPosition .a) s = false) ∧
    (let c := { ctxA 2 .finishing with outcome := some (.aborted ⟨.commanded, .none, 2, 1⟩), abortedSalt := some 1269 }
     AtRest (running c calm) ∧ (valveRec .soft (running c calm)).status ≠ .fault ∧
      isAt .soft (restPosition .a) (running c calm) = false) ∧
    { ctxA 3 .finishing with brineDone := true }.brineDone = true ∧
    (Abort.mk .programmeError (.programme .loopLimit 3) 2 1).reason = .programmeError := by decide

/-- A re-evaluation that dispatches, and one that finds nothing, end within the bound
(DispatchOfTheFirstEligibleEntry). -/
theorem witness_regrant :
    (let s := { bServes .waiting calm with queue.entries := waiting }
     AtRest s ∧ settles 255 (reevaluateGrant s) = true ∧ (reevaluateGrant s).queue.grant = some .f) ∧
    settles 255 (reevaluateGrant calm) = true := by decide

/-- A request that the arbiter grants ends within the bound; one whose valve is AT its target; and one of V_SHUT, AT(OPEN)
while a run is under way (ArbiterGrantsTheDriver, SettleEndsInRecheck). -/
theorem witness_arbitrate :
    (AtRest asking ∧ settles 255 (arbitrate asking) = true ∧ (arbitrate asking).valves.grant.isSome = true) ∧
    isAt .soft 1 (softAt (.atPos 1) asking) = true ∧
    (let r : MoveReq := ⟨1, .shutClose, .shutoffControl, 0⟩
     let s := { running (ctxA 1 .running) calm with valves.shut.waiting := some r, valves.shut.lastDir := none }
     AtRest s ∧ (valveRec .shut s).waiting = some r ∧ (valveRec .shut s).status = .atPos 0 ∧
      isAt .shut 1 s = false ∧ (valveRec .shut s).lastDir.any (· ≠ .forward) = false ∧ s.valves.grant = none) ∧
    (let g : Grant := ⟨.shut, 1, .shutClose, some ⟨1, .shutClose, .shutoffControl, 0⟩, .settle, false, some .forward, 0⟩
     let s := driving g (running (ctxA 1 .running) calm)
     AtRest s ∧ s.valves.grant = some g ∧ (valveRec .shut s).status = .atPos 0 ∧
      regimeGrants s.supply.regime g.cls = true ∧ Reading.span 0 ≠ .pos 1) := by decide

/-- A run of tank A that waits for V_SOFT to reach SRV_B, in each state of a run (DriveExtendAndHoldEnd). -/
def awaiting (state : RunState) : RunCtx := { ctxA 1 state with awaited := some ⟨.soft, 1, .step⟩ }

/-- Answers to the awaited move and to another; a status report of V_SHUT for a run it has suspended
(DriveExtendAndHoldEnd). -/
theorem witness_answers :
    (let s := { running (awaiting .positioning) calm with signals := [.answer .soft ⟨1, .run, .runController, 0⟩ .fault] }
     s.run.ctx = some (awaiting .positioning) ∧ (awaiting .positioning).awaited = some ⟨.soft, 1, .step⟩ ∧
      settles 255 (handle (.answer .soft ⟨1, .run, .runController, 0⟩ .fault) { s with signals := [] }) = true) ∧
    (let c := { ctxA 1 .suspended with susShutoff := true, posReached := true }
     (running c calm).run.ctx = some c ∧ c.state = .suspended ∧ c.susPower = false ∧ c.parked = false ∧
      AtRest (running { c with susShutoff := false } calm)) ∧
    (ctxA 1 .running).unit.valve = .soft ∧ calm.run.ctx = none := by decide

/-- Three moves that end: V_SOFT at its step's position, V_SHUT at OPEN, and the second stall of V_SOFT
(DriveExtendAndHoldEnd). -/
theorem witness_move_ends :
    (let s := driving (softMove .hold false) (softAt .moving (running (awaiting .positioning) calm))
     AtRest s ∧ s.valves.grant = some (softMove .hold false) ∧ (valveRec .soft s).status = .moving ∧
      (∀ w : Valve, w = .shut ∨ w = .flt → (valveRec w s).waiting = none) ∧ s.valves.soft.waiting = none) ∧
    (let g : Grant := ⟨.shut, 0, .shutOpen, some ⟨0, .shutOpen, .shutoffControl, 0⟩, .hold, false, some .reverse, 6⟩
     let c := { ctxA 1 .suspended with susShutoff := true, posReached := true }
     let s := driving g (shutAt .moving (running c calm))
     AtRest s ∧ s.valves.grant = some g ∧ (valveRec .shut s).status = .moving ∧ s.valves.shut.waiting = none) ∧
    (let s := driving (softMove .extend true) (softAt .moving (running (awaiting .positioning) calm))
     AtRest s ∧ Reading.span 0 ≠ .pos 1 ∧ (awaiting .positioning).brineDone = false ∧ s.queue.entries = [] ∧
      (softMove .extend true).valve = (awaiting .positioning).unit.valve) := by
  refine ⟨⟨?_, ?_, ?_, fun w h => ?_, ?_⟩, ?_, ?_⟩ <;> first | decide | (cases h <;> subst w <;> decide)

/-- A release below its third try whose ASSIGN is not confirmed (RecoveryAndReleaseTransactions). -/
theorem witness_release_stands :
    let s := { wetFloor with loop.inFlight := some (.release ⟨5, 1⟩), loop.releases := [⟨5, 1, 2⟩] }
    AtRest s ∧ s.supply.regime ≠ .dormant ∧ s.loop.inFlight = some (.release ⟨5, 1⟩) ∧
      (∀ r ∈ s.loop.releases, r.tries < 3) ∧ (none : Option Nat) ≠ some 0 := by decide

/-- A PIN reset that comes while one is held (ResetsAreTakenOrHeld). -/
theorem witness_second_reset :
    let s := { calm with store.writing := some factoryImage, resets.held := some { kind := .pin } }
    held s = false ∧ s.store.writing ≠ none ∧ s.resets.held ≠ none := by decide

/-! ## Witnesses of the clauses on hour changes, wrong programmes and cases at rest -/

/-- R56, R196 (log 44): SALT_ADDED answers with nine bytes, the mass taken absent under OK and present under CLAMPED. -/
theorem test_saltAddedReply :
    Sends 0xB0 7 .ok [0, 0, 0, 100, 0, 0, 0, 0, 0] (after (.saltAdded 7 100) { calm with brine.model := 0 }) ∧
      Sends 0xB0 7 .clamped [0, 0, 0, 1, 1, 0, 0, 0, 1] (after (.saltAdded 7 0) { calm with brine.model := 0 }) := by
  decide +kernel

/-- A run of tank A suspended and parked at its factory slot 2, here a BRINE step of 1 s. -/
def oneSecond (restored : Bool) : State :=
  let c := { ctxA 2 .suspended with parked := true, restored := restored }
  { running c calm with run.table := [none, some ⟨.brine, .time, 1, none, false, some 3⟩] ++ factoryTable.drop 2 }

/-- R179, R81: a restored BRINE step of 1 s starts again; one that is parked without a restart counts as complete. -/
theorem test_restoredBrine :
    (after .runResume (oneSecond true)).run.ctx.map (fun c => (c.slot, c.restored, c.brineDone)) =
        some (some 2, false, false) ∧
      (after .runResume (oneSecond false)).run.ctx.map (fun c => (c.slot, c.brineDone)) = some (some 3, true) := by
  decide

/-- The hypotheses of both cases of a parked BRINE step (SuspendedRunResumesOrIsAborted). -/
theorem witness_restored : AtRest (oneSecond true) ∧ AtRest (oneSecond false) ∧
    (oneSecond true).run.ctx.map (fun c => (c.state, c.susPower, c.susShutoff, c.parked, c.restored)) =
      some (.suspended, false, false, true, true) := by decide

/-- R124: the reply of CLEAR_FAULT carries UNKNOWN although the re-issued move is granted and drives in the action. -/
theorem test_clearFaultReply :
    let t := after (.clearFault 7 2) (softAt .fault { calm with valves.soft.lastDir := none })
    t.valves.soft.status = .moving ∧ Sends 0xAB 7 .ok (encStatus .unknown) t := by decide +kernel

/-- A time in another hour of the week and one in the same; a map that makes the hour quiet and one that does not
(TimeMessagesAndQuietStatus). -/
theorem witness_hourChange :
    let s := { calm with time.clock := ⟨0, 5, 30, 0, true⟩, leak.episode := some (draw 10 900 0) }
    Listens s ∧ hourOfWeek s.time.clock ≠ hourOfWeek ⟨0, 6, 30, 0, true⟩ ∧
      hourOfWeek s.time.clock = hourOfWeek ⟨0, 5, 31, 0, true⟩ ∧ quietNow s = true ∧
      quietNow { s with time.quietMap := 0 } = false ∧ quietNow { s with time.quietMap := BitVec.allOnes 168 } = true ∧
      BitVec.allOnes 168 ≠ s.time.quietMap := by decide

/-- A sample after which the serving tank is SPENT: tank B STANDBY with V_SOFT sound and in FAULT, and B WAITING with an
entry; and one that leaves the grade as it is (LoadReserveAndUrgency). -/
theorem witness_sample_urgency :
    (let s := { calm with bed.tankA := { factoryTankA with remaining := 0 } }
     let charged := chargeLoad 5 s
     urgencyGrade (tankRec (servingTank s) charged).remaining s.bed.reserve = .spent ∧ (tankRec .a s).urgency ≠ .spent ∧
      (tankRec .b s).role = .standby ∧ s.bed.changePending = false ∧ (valveRec .soft s).status ≠ .fault ∧
      (valveRec .soft (softAt .fault s)).status = .fault) ∧
    (let s := { calm with
       bed.tankA := { factoryTankA with remaining := 0 }, bed.tankB.role := .waiting, queue.entries := [waiting[1]] }
     (tankRec .b s).role = .waiting ∧ servingTank s = .a) ∧
    (let s := { bServes .waiting calm with bed.tankB.remaining := 0, queue.entries := waiting }
     servingTank s = .b ∧ entryOf .a s = some waiting[1] ∧ s.run.ctx = none ∧ s.run.holds = [] ∧
      s.bed.tankB.urgency ≠ urgencyGrade 0 s.bed.reserve) ∧
    urgencyGrade (tankRec .a (chargeLoad 0 calm)).remaining calm.bed.reserve = (tankRec .a calm).urgency := by decide

/-- A table of BRINE steps, each linked to the last slot. -/
def brineTable : List (Option Machine.Step) := List.replicate 16 (some ⟨.brine, .time, 3600, none, false, some 16⟩)

/-- A step entry at an empty slot and, for F, at a BRINE step, the run's valve at its service position and away from it
(StepIsEnteredWithFreshCounts). -/
theorem witness_wrong_entry :
    (let c := ctxA 14 .running
     let s := running c calm
     s.run.ctx = some c ∧ c.state ≠ .finishing ∧ currentStep c s = none ∧ isAt .soft (restPosition .a) s = false ∧
      isAt .soft (restPosition .a) (running c (softAt (.atPos 1) calm)) = true) ∧
    (let c := { ctxA 1 .running with unit := .f }
     let s := { running c calm with run.table := brineTable }
     s.run.ctx = some c ∧ currentStep c s = some ⟨.brine, .time, 3600, none, false, some 16⟩ ∧
      isAt .flt (restPosition .f) s = true) := by decide

/-- A step at its end whose link leads to an empty slot, to a BRINE step of F, or to a seventeenth step with the valve at
its service position (StepEndFollowsTheLink). -/
theorem witness_wrong_link :
    (let c := { ctxA 1 .running with elapsed := 600 }
     let st : Machine.Step := ⟨.backwash, .time, 600, none, true, some 16⟩
     let s := { running c calm with run.table := [some st] ++ List.replicate 15 none }
     AtRest s ∧ s.run.ctx = some c ∧ currentStep c s = some st ∧ stepReached c st = true ∧ c.steps < 16 ∧
      slotOf s.run.table 16 = none) ∧
    (let c := { ctxA 1 .running with unit := .f, elapsed := 600 }
     let st : Machine.Step := ⟨.backwash, .time, 600, none, true, some 16⟩
     let s := { running c calm with run.table := [some st] ++ brineTable.drop 1 }
     AtRest s ∧ currentStep c s = some st ∧ stepReached c st = true ∧ c.unit = .f ∧
      slotOf s.run.table 16 = some ⟨.brine, .time, 3600, none, false, some 16⟩) ∧
    (let c := { ctxA 2 .running with elapsed := 3600, steps := 16 }
     let s := running c (softAt (.atPos 1) calm)
     AtRest s ∧ currentStep c s = some ⟨.brine, .time, 3600, none, false, some 3⟩ ∧ 16 ≤ c.steps ∧
      isAt c.unit.valve (restPosition c.unit) s = true) := by decide

/-- A dispatch whose programme begins at an empty slot, and one of F that begins with a BRINE step
(DispatchOfTheFirstEligibleEntry). -/
theorem witness_wrong_dispatch :
    (let s := { bServes .waiting calm with queue.entries := waiting, run.filterEntry := 16 }
     s.queue.grant = none ∧ s.run.ctx = none ∧ blockerOf waiting[0] s = none ∧ slotOf s.run.table 16 = none) ∧
    (let s := { bServes .waiting calm with queue.entries := waiting, run.table := brineTable }
     blockerOf waiting[0] s = none ∧ waiting[0].unit = .f ∧
      slotOf s.run.table s.run.filterEntry = some ⟨.brine, .time, 3600, none, false, some 16⟩) := by decide

/-- No run; a hold count of 9 and a release count of 59 with budget left (HoldsBeginAndEnd). -/
theorem witness_holds_short : (AtRest calm ∧ calm.run.ctx = none) ∧
    (let c := { ctxA 1 .running with holdCount := 9 }
     AtRest (running c calm) ∧ c.state = .running ∧ c.holdCount < 10) ∧
    (let c := { ctxA 1 .holding with releaseCount := 59 }
     AtRest (running c calm) ∧ c.state = .holding ∧ c.releaseCount < 60 ∧ 0 < c.budget) := by decide

/-- The first byte of each kind that names nothing (RequestRegenByTheTanksRole, BackwashAndCancelMessages,
AwayExtendAndAcknowledge), and a part with no episode (EpisodeEndsAndIsMatched). -/
theorem witness_badValues : Listens calm ∧ readTank 2 = none ∧ readMode 2 = none ∧ readUnit 3 = none ∧ readAway 2 = none ∧
    calm.leak.episode = none := by decide

/-- No transaction in flight as DORMANT is left: no pod and no release with a muted listen, an open one and none; and a
release to send (PollCycleReadsThePods). -/
theorem witness_dormant_left :
    (let s := { calm with loop.listen := ⟨true, .shutoff, 5, none, true⟩ }
     s.loop.inFlight = none ∧ s.loop.pods = [] ∧ s.loop.releases = [] ∧ s.loop.listen.running = true ∧
      s.loop.listen.muted = true ∧ (loopRegime .dormant .reserve s).loop.firstSinceDormant = false) ∧
    (let s := { calm with loop.listen := ⟨true, .shutoff, 5, some ⟨99, 1⟩, false⟩ }
     s.loop.listen.running = true ∧ s.loop.listen.muted = false) ∧
    (calm.loop.inFlight = none ∧ calm.loop.listen.running = false) ∧
    (let s := { calm with loop.releases := [⟨5, 1, 0⟩] }
     s.loop.inFlight = none ∧ s.loop.pods = [] ∧ s.loop.releases = ⟨5, 1, 0⟩ :: []) := by decide

/-- The low count reached with the mains there or a close wait begun, a close wait at 0 and at 5 that no answer has met,
and each other regime (RegimeFollowsMainsAndBattery). -/
theorem witness_regime_idle :
    (let s := { reserve true with supply.lowCount := 10 }
     AtRest s ∧ s.supply.regime = .reserve ∧ s.supply.mainsPresent = true) ∧
    (let s := { reserve false with supply.lowCount := 10, supply.closeWait := some 5 }
     AtRest s ∧ s.supply.closeWait = some 5 ∧ (valveRec .shut s).status = .atPos 0) ∧
    (let s := { reserve false with supply.closeWait := some 0 }
     AtRest s ∧ s.supply.closeWait = some 0 ∧ (valveRec .shut s).status = .atPos 0) ∧
    (AtRest calm ∧ calm.supply.regime ≠ .reserve) ∧
    (let s := { reserve false with supply.regime := .dormant }
     AtRest s ∧ s.supply.regime ≠ .reserve) := by decide

end Sys2Proof.Tests
end

section
/-! What each operation and each command does to the queue of commands that wait: nothing. Operations that `steady`
covers are cited from Laws/Steady.lean; the others write the settings, the time base, the meters, the channels, the
Snapshot Store or the resets, and have a lemma here. -/

namespace Sys2Proof.Machine

/-- An operation that leaves the queue of commands as it found it. -/
def KeepsQueue (f : State → State) : Prop := ∀ s, (f s).pending = s.pending

/-- What `steady` covers keeps the queue. -/
theorem KeepsQueue.of_steady {f : State → State} (h : ∀ s, steady (f s) = steady s) : KeepsQueue f :=
  fun s => pending_of_steady (h s)

/-- A list of turns keeps the queue where each turn does. -/
theorem KeepsQueue.foldl {α : Type} {f : State → α → State} (h : ∀ x, KeepsQueue (f · x)) (l : List α) :
    KeepsQueue (l.foldl f) := by
  intro s
  induction l generalizing s with
  | nil => rfl
  | cons x xs ih => exact (ih (f s x)).trans (h x s)

/-! ## The end of an action -/

@[simp] theorem deliver_pending (s : State) : (deliver s).pending = s.pending := pending_of_steady (deliver_steady s)

@[simp] theorem beginWrite_pending (s : State) : (beginWrite s).pending = s.pending := by
  unfold beginWrite; split <;> rfl

@[simp] theorem settleWrites_pending (s : State) : (settleWrites s).pending = s.pending := by
  unfold settleWrites; split
  · exact beginWrite_pending _
  · rfl

@[simp] theorem finish_pending (s : State) : (finish s).pending = s.pending := by simp [finish]

theorem KeepsQueue.running {f : State → State} (h : KeepsQueue f) : KeepsQueue (running f) := by
  intro s
  unfold Machine.running; split
  · rfl
  · exact (finish_pending _).trans (h s)

theorem KeepsQueue.whenDue {f : State → State} (h : KeepsQueue f) (due : State → Bool) :
    KeepsQueue (whenDue due f) := by
  refine KeepsQueue.running fun s => ?_
  split
  · exact h s
  · rfl

theorem KeepsQueue.whenFound {α : Type} {f : α → State → State} (h : ∀ x, KeepsQueue (f x))
    (due : State → Option α) : KeepsQueue (whenFound due f) := by
  refine KeepsQueue.running fun s => ?_
  split
  · exact h _ s
  · rfl

/-! ## Seconds, samples, readings (chapter 1) -/

@[simp] theorem publishHour_steady (s : State) : steady (publishHour s) = steady s := by simp [publishHour]

@[simp] theorem publishIfMoved_steady (before s : State) : steady (publishIfMoved before s) = steady s := by
  unfold publishIfMoved; split <;> simp

theorem closeUsageDay_pending (s : State) : (closeUsageDay s).pending = s.pending :=
  (pending_of_steady (recomputeReserve_steady _)).trans rfl

theorem dayRollover_pending (s : State) : (dayRollover s).pending = s.pending :=
  (pending_of_steady (by simp [dayRollover])).trans (closeUsageDay_pending s)

theorem timeSecond_keepsQueue : KeepsQueue timeSecond := by
  intro s
  have hour : (if (clockSecond s.time.clock).2.1 then publishHour (advanceClock s) else advanceClock s).pending =
      s.pending := by
    split
    · exact (pending_of_steady (publishHour_steady (advanceClock s))).trans rfl
    · rfl
  unfold timeSecond; dsimp only; split
  · exact (dayRollover_pending _).trans hour
  · exact hour

theorem tickPart_keepsQueue : (r : TickReader) → KeepsQueue (tickPart r)
  | .timeBase => timeSecond_keepsQueue
  | .brine => .of_steady brineSecond_steady
  | .queue => .of_steady queueSecond_steady
  | .supply => .of_steady supplySecond_steady
  | .loop => .of_steady loopSecond_steady

theorem takeSecond_keepsQueue (order : List TickReader) : KeepsQueue (takeSecond order) :=
  KeepsQueue.foldl (fun r s => (deliver_pending _).trans (tickPart_keepsQueue r s)) _

theorem resetSecond_keepsQueue : KeepsQueue resetSecond := by
  intro s
  unfold resetSecond; (repeat' split) <;> rfl

theorem countPulse_keepsQueue (m : Meter) : KeepsQueue (countPulse m) := by
  intro s
  cases m <;> rfl

theorem meterFault_keepsQueue (u : HeadUnit) (p : Phase) : KeepsQueue (meterFault u p) := fun _ => rfl

theorem judgeDrain_keepsQueue : KeepsQueue judgeDrain := by
  intro s
  unfold judgeDrain; dsimp only; (repeat' split) <;> rfl

theorem addUsage_keepsQueue (household : Nat) : KeepsQueue (addUsage household) := by
  intro s
  unfold addUsage; split <;> rfl

theorem closeInterval_pending (s : State) : (closeInterval s).2.pending = s.pending :=
  (addUsage_keepsQueue _ _).trans (judgeDrain_keepsQueue s)

@[simp] theorem samplePart_steady (served : Bool) (x : Sample) (r : SampleReader) (s : State) :
    steady (samplePart served x r s) = steady s := by
  cases r <;> simp [samplePart]

@[simp] theorem publishSample_steady (order : List SampleReader) (x : Sample) (s : State) :
    steady (publishSample order x s) = steady s := by
  have turns : ∀ (served : Bool) (l : List SampleReader) (t : State),
      steady (l.foldl (fun st r => deliver (samplePart served x r st)) t) = steady t := by
    intro served l
    induction l with
    | nil => intro t; rfl
    | cons r rs ih => intro t; simp [ih]
  exact turns _ _ s

theorem intervalExpiry_keepsQueue (order : List SampleReader) : KeepsQueue (intervalExpiry order) := fun s =>
  (pending_of_steady (publishSample_steady ..)).trans (closeInterval_pending s)

theorem scanChannel_keepsQueue (c : Channel) (raw : Int) : KeepsQueue (scanChannel c raw) := by
  intro s
  unfold scanChannel; dsimp only; split <;> simp

@[simp] theorem channelReader_steady (c : Channel) (s : State) : steady (channelReader c s) = steady s := by
  cases c <;> simp [channelReader]

theorem channelReading_keepsQueue (c : Channel) (raw : Int) :
    KeepsQueue fun s => channelReader c (scanChannel c raw s) := fun s =>
  (pending_of_steady (channelReader_steady ..)).trans (scanChannel_keepsQueue c raw s)

/-! ## Moves, deferrals, mains (chapters 5, 7, 10) -/

@[simp] theorem readSenses_steady (shut flt soft : Reading) (s : State) :
    steady (readSenses shut flt soft s) = steady s := by simp [readSenses]

@[simp] theorem endSettle_steady (reading : Reading) (g : Grant) (s : State) :
    steady (endSettle reading g s) = steady s := by
  unfold endSettle; dsimp only; split <;> simp

@[simp] theorem confirmMove_steady (g : Grant) (s : State) : steady (confirmMove g s) = steady s := by
  simp [confirmMove]

@[simp] theorem stallMove_steady (g : Grant) (s : State) : steady (stallMove g s) = steady s := by
  unfold stallMove; split <;> simp

@[simp] theorem endDrive_steady (reading : Reading) (g : Grant) (s : State) :
    steady (endDrive reading g s) = steady s := by
  unfold endDrive; split <;> simp

@[simp] theorem endExtend_steady (reading : Reading) (g : Grant) (s : State) :
    steady (endExtend reading g s) = steady s := by
  unfold endExtend; split <;> simp

@[simp] theorem expireDeferrals_steady (s : State) : steady (expireDeferrals s) = steady s := rfl

@[simp] theorem senseMains_steady (level : Bool) (s : State) : steady (senseMains level s) = steady s := by
  unfold senseMains; dsimp only; split <;> simp

/-! ## Writes and resets (R176, R177, R180) -/

theorem takeReset_keepsQueue (call : ResetCall) : KeepsQueue (takeReset call) := fun _ => rfl

theorem holdReset_keepsQueue (call : ResetCall) : KeepsQueue (holdReset call) := by
  intro s
  unfold holdReset; split <;> rfl

theorem coldReset_keepsQueue (kind : ResetKind) : KeepsQueue (coldReset kind) := by
  intro s
  refine (takeReset_keepsQueue _ _).trans ?_
  split <;> rfl

theorem warmReset_keepsQueue (call : ResetCall) : KeepsQueue (warmReset call) := by
  intro s
  unfold warmReset; split
  · exact holdReset_keepsQueue call s
  · exact takeReset_keepsQueue call s

theorem factoryReset_keepsQueue : KeepsQueue factoryReset := by
  intro s
  unfold factoryReset; dsimp only; split <;> exact holdReset_keepsQueue _ s

theorem linkResetOf_keepsQueue : (option : ResetOption) → KeepsQueue (linkResetOf option)
  | .normal => warmReset_keepsQueue _
  | .factory => factoryReset_keepsQueue

theorem assertReset_keepsQueue : (cause : ResetCause) → KeepsQueue (assertReset cause)
  | .supply => coldReset_keepsQueue _
  | .brownout => coldReset_keepsQueue _
  | .pin => warmReset_keepsQueue _

theorem resetAgain_keepsQueue (old : ResetCall) (kind : ResetKind) : KeepsQueue (resetAgain old kind) := by
  intro s
  unfold resetAgain; split <;> rfl

theorem heldWriteEnd_keepsQueue (call : ResetCall) (img : Image) : KeepsQueue (heldWriteEnd call img) := by
  intro s
  unfold heldWriteEnd; split <;> rfl

theorem writeEnds_keepsQueue (img : Image) : KeepsQueue (writeEnds img) := by
  intro s
  unfold writeEnds; dsimp only; split
  · exact heldWriteEnd_keepsQueue _ img _
  · split <;> rfl

/-! ## Restart (R178, R179) -/

@[simp] theorem supplyRestart_steady (s : State) : steady (supplyRestart s) = steady s := rfl

@[simp] theorem leakRestart_steady (s : State) : steady (leakRestart s) = steady s := rfl

@[simp] theorem filterRestart_steady (s : State) : steady (filterRestart s) = steady s := rfl

@[simp] theorem awaitGrant_steady (s : State) : steady (awaitGrant s) = steady s := rfl

@[simp] theorem bedRestart_steady (s : State) : steady (bedRestart s) = steady s := by simp [bedRestart]

@[simp] theorem reissueAll_steady (s : State) : steady (reissueAll s) = steady s := by simp [reissueAll]

@[simp] theorem restoreRun_steady (s : State) : steady (restoreRun s).2 = steady s := by
  unfold restoreRun; dsimp only; (repeat' split) <;> simp

theorem announce_keepsQueue (r : ResetRecord) : KeepsQueue (announce r) := by
  intro s
  unfold announce; dsimp only; (repeat' split) <;> rfl

theorem restartPart_keepsQueue (call : ResetCall) : KeepsQueue (restartPart call) := by
  intro s
  refine (pending_of_steady (awaitGrant_steady _)).trans ((announce_keepsQueue _ _).trans ?_)
  have parts : ∀ t, steady (reissueAll (filterRestart (evalStage (bedRestart
      (restoreRun (supplyRestart (leakRestart t))).2)))) = steady t := fun t => by simp
  exact (pending_of_steady (parts _)).trans rfl

/-! ## What a message does (R185, R195) -/

section Effects

variable (s : State)

@[simp] theorem refuse_snd (st : Status) : (refuse st s).2 = s := rfl

@[simp] theorem replyOk_snd (record : State → List Byte) : (replyOk record s).2 = s := rfl

@[simp] theorem query_snd (record : State → List Byte) : (query record s).2 = s := rfl

@[simp] theorem enableProbeEffect_steady (tank : Byte) : steady (enableProbeEffect tank s).2 = steady s := by
  unfold enableProbeEffect; dsimp only; (repeat' split) <;> simp

@[simp] theorem storeAway_steady (on : Bool) : steady (storeAway on s) = steady s := by
  unfold storeAway; split <;> simp

@[simp] theorem setAwayEffect_steady (onOrOff : Byte) : steady (setAwayEffect onOrOff s).2 = steady s := by
  unfold setAwayEffect; split <;> simp

@[simp] theorem extendEffect_steady : steady (extendEffect s).2 = steady s := by
  unfold extendEffect; (repeat' split) <;> simp

@[simp] theorem acknowledge_steady : steady (acknowledge s) = steady s := by
  unfold acknowledge; split <;> simp

@[simp] theorem ackLeakEffect_steady : steady (ackLeakEffect s).2 = steady s := by
  unfold ackLeakEffect; split <;> simp

@[simp] theorem shutoffCloseEffect_steady : steady (shutoffCloseEffect s).2 = steady s := by
  simp [shutoffCloseEffect]

@[simp] theorem beginProbation_steady : steady (beginProbation s) = steady s := by simp [beginProbation]

@[simp] theorem reopen_steady : steady (reopen s) = steady s := by
  unfold reopen; dsimp only; split <;> simp

@[simp] theorem shutoffOpenEffect_steady : steady (shutoffOpenEffect s).2 = steady s := by
  unfold shutoffOpenEffect; split <;> simp

@[simp] theorem storeFixture_steady (n : Nat) (f : Option Fixture) : steady (storeFixture n f s) = steady s := by
  simp [storeFixture]

@[simp] theorem putFixtureEffect_steady (id : Byte) (fixture : Option Fixture) :
    steady (putFixtureEffect id fixture s).2 = steady s := by
  unfold putFixtureEffect; (repeat' split) <;> simp

theorem onFixture_steady (id : Byte) {effect : Fixture → State → Reply × State}
    (h : ∀ f, steady (effect f s).2 = steady s) : steady (onFixture id effect s).2 = steady s := by
  unfold onFixture; (repeat' split) <;> simp [h]

@[simp] theorem dropFixtureEffect_steady (id : Byte) : steady (dropFixtureEffect id s).2 = steady s :=
  onFixture_steady s id fun _ => by simp

@[simp] theorem getFixtureEffect_steady (id : Byte) : steady (getFixtureEffect id s).2 = steady s :=
  onFixture_steady s id fun _ => by simp

@[simp] theorem getParamEffect_steady (id : Byte) : steady (getParamEffect id s).2 = steady s := by
  unfold getParamEffect; split <;> simp

@[simp] theorem getEventsEffect_steady : steady (getEventsEffect s).2 = steady s := rfl

@[simp] theorem setMaskEffect_steady (mask : BitVec 32) : steady (setMaskEffect mask s).2 = steady s := by
  unfold setMaskEffect; dsimp only [replyOk]; split <;> simp

@[simp] theorem getStatusEffect_steady (code : Byte) : steady (getStatusEffect code s).2 = steady s := by
  unfold getStatusEffect; split <;> simp

@[simp] theorem openListen_steady (p : Policy) : steady (openListen p s) = steady s := rfl

@[simp] theorem enrolEffect_steady (policy : Byte) : steady (enrolEffect policy s).2 = steady s := by
  unfold enrolEffect; (repeat' split) <;> simp

theorem onPod_steady (address : Byte) {effect : Pod → State → Reply × State}
    (h : ∀ p, steady (effect p s).2 = steady s) : steady (onPod address effect s).2 = steady s := by
  unfold onPod; (repeat' split) <;> simp [h]

@[simp] theorem retirePodEffect_steady (address : Byte) : steady (retirePodEffect address s).2 = steady s :=
  onPod_steady s address fun _ => by simp

@[simp] theorem acknowledgePod_steady (p : Pod) : steady (acknowledgePod p s) = steady s := by
  unfold acknowledgePod; split <;> simp

@[simp] theorem ackPodEffect_steady (address : Byte) : steady (ackPodEffect address s).2 = steady s :=
  onPod_steady s address fun _ => by simp

@[simp] theorem storePolicy_steady (p : Pod) (policy : Policy) : steady (storePolicy p policy s) = steady s := by
  unfold storePolicy; dsimp only; (repeat' split) <;> simp

@[simp] theorem setPolicyEffect_steady (address policy : Byte) :
    steady (setPolicyEffect address policy s).2 = steady s := by
  unfold setPolicyEffect; split
  · rfl
  · exact onPod_steady s address fun _ => by simp

@[simp] theorem getPodEffect_steady (address start : Byte) : steady (getPodEffect address start s).2 = steady s := by
  unfold getPodEffect; split
  · rfl
  · exact onPod_steady s address fun _ => by simp

@[simp] theorem clearValve_steady (v : Valve) : steady (clearValve v s) = steady s := by simp [clearValve]

@[simp] theorem clearFaultEffect_steady (valve : Byte) : steady (clearFaultEffect valve s).2 = steady s := by
  unfold clearFaultEffect; dsimp only; (repeat' split) <;> simp

@[simp] theorem regenByRole_steady (t : Tank) (cls : Cls) : steady (regenByRole t cls s) = steady s := by
  unfold regenByRole; split <;> simp

@[simp] theorem requestRegenEffect_steady (tank mode : Byte) :
    steady (requestRegenEffect tank mode s).2 = steady s := by
  unfold requestRegenEffect; (repeat' split) <;> simp

@[simp] theorem requestBackwashEffect_steady (mode : Byte) : steady (requestBackwashEffect mode s).2 = steady s := by
  unfold requestBackwashEffect; (repeat' split) <;> simp

@[simp] theorem cancelEntry_steady (e : Entry) : steady (cancelEntry e s) = steady s := by
  unfold cancelEntry; dsimp only; split <;> simp

@[simp] theorem cancelUnit_steady (u : HeadUnit) : steady (cancelUnit u s).2 = steady s := by
  unfold cancelUnit; (repeat' split) <;> simp

@[simp] theorem cancelRunEffect_steady (unit : Byte) : steady (cancelRunEffect unit s).2 = steady s := by
  unfold cancelRunEffect; split <;> simp

@[simp] theorem storeStep_steady (slot : Byte) (x : Option Step) : steady (storeStep slot x s) = steady s := by
  simp [storeStep]

@[simp] theorem putRecord_steady (slot : Byte) (st : Step) : steady (putRecord slot st s).2 = steady s := by
  unfold putRecord; split <;> simp

@[simp] theorem putStepEffect_steady (slot emptyMark : Byte) (st : Option Step) :
    steady (putStepEffect slot emptyMark st s).2 = steady s := by
  unfold putStepEffect; (repeat' split) <;> simp

@[simp] theorem getStepEffect_steady (slot : Byte) : steady (getStepEffect slot s).2 = steady s := by
  unfold getStepEffect; split <;> simp

@[simp] theorem storeEntry_steady (pointer slot : Byte) : steady (storeEntry pointer slot s) = steady s := by
  unfold storeEntry; dsimp only; split <;> simp

@[simp] theorem setEntryEffect_steady (pointer slot : Byte) : steady (setEntryEffect pointer slot s).2 = steady s := by
  unfold setEntryEffect; split <;> simp

@[simp] theorem pourSalt_steady (mass : Nat) : steady (pourSalt mass s) = steady s := by simp [pourSalt]

@[simp] theorem saltAddedEffect_steady (mass : BitVec 32) : steady (saltAddedEffect mass s).2 = steady s :=
  pourSalt_steady s _

@[simp] theorem ackSaltEffect_steady : steady (ackSaltEffect s).2 = steady s := by
  unfold ackSaltEffect; split <;> simp

@[simp] theorem clearBridgeEffect_steady : steady (clearBridgeEffect s).2 = steady s := by simp [clearBridgeEffect]

@[simp] theorem classChanged_steady (c : LimitClass) : steady (classChanged c s) = steady s := by
  unfold classChanged; split <;> simp

/-- Only the factors of the meters reach into the steady part: their residue restarts (R8). -/
theorem paramEffect_pending (p : Param) : (paramEffect p s).pending = s.pending := by
  cases p with
  | supplyK => rfl
  | drainK => rfl
  | _ => exact pending_of_steady (by simp [paramEffect])

theorem changeParam_pending (p : Param) (v : Int) : (changeParam p v s).pending = s.pending := by
  unfold changeParam; split
  · rfl
  · exact paramEffect_pending _ p

theorem setParamEffect_pending (id : Byte) (value : BitVec 32) :
    (setParamEffect id value s).2.pending = s.pending := by
  unfold setParamEffect; (repeat' split)
  · rfl
  · rfl
  · exact changeParam_pending s _ _

theorem setTimeEffect_pending (day hour minute second : Byte) :
    (setTimeEffect day hour minute second s).2.pending = s.pending :=
  (pending_of_steady (publishIfMoved_steady s _)).trans rfl

theorem setQuietMapEffect_pending (flags : BitVec 168) : (setQuietMapEffect flags s).2.pending = s.pending := by
  unfold setQuietMapEffect; split
  · rfl
  · exact (pending_of_steady (publishIfMoved_steady s _)).trans rfl

theorem resetEffect_pending (option : Byte) : (resetEffect option s).2.pending = s.pending := by
  unfold resetEffect; split <;> rfl

/-- Four messages write a setting, the time base or the resets; every other one keeps the whole steady part. -/
theorem effectOf_pending (m : Instr) : (effectOf m s).2.pending = s.pending := by
  cases m with
  | setParam tag id value => exact setParamEffect_pending s id value
  | setTime tag day hour minute second => exact setTimeEffect_pending s day hour minute second
  | setQuietMap tag flags => exact setQuietMapEffect_pending s flags
  | reset tag option => exact resetEffect_pending s option
  | _ => exact pending_of_steady (by simp [effectOf])

end Effects

/-! ## The receiver (R182 to R185) -/

theorem answer_keepsQueue (m : Instr) (r : Link.Request) : KeepsQueue (answer m r) := fun s =>
  (finish_pending _).trans ((deliver_pending _).trans (effectOf_pending (frameTaken s) m))

theorem takeRequest_keepsQueue (m : Instr) (r : Link.Request) : KeepsQueue (takeRequest m r) := by
  intro s
  unfold takeRequest; split
  · rfl
  · exact answer_keepsQueue m r s

theorem badFrame_keepsQueue : KeepsQueue badFrame := by
  intro s
  unfold badFrame; split <;> rfl

theorem judgeCollected_keepsQueue (bytes : List Byte) : KeepsQueue (judgeCollected bytes) := by
  intro s
  unfold judgeCollected; split
  · rfl
  · rfl
  · exact badFrame_keepsQueue s
  · exact takeRequest_keepsQueue _ _ s

theorem receiveByte_keepsQueue (b : Byte) : KeepsQueue (receiveByte · b) := by
  intro s
  dsimp only [receiveByte]; split
  · rfl
  · split
    · split <;> rfl
    · exact judgeCollected_keepsQueue _ s

theorem receive_keepsQueue (bytes : List Byte) : KeepsQueue (receive bytes) :=
  KeepsQueue.foldl receiveByte_keepsQueue bytes

theorem message_keepsQueue (m : Instr) : KeepsQueue (message m) := by
  intro s
  unfold message; split
  · rfl
  · split
    · rfl
    · split
      · exact takeRequest_keepsQueue m _ s
      · exact receive_keepsQueue _ s

/-! ## Every command -/

/-- A meaning that answers a next state from every state, with the queue of commands as it found it. -/
def CompletesKeepingQueue (f : State → Host.Outcome State Fault Refusal) : Prop :=
  ∀ s, ∃ t, f s = .next t ∧ t.pending = s.pending

/-- An operation that keeps the queue makes such a meaning. -/
theorem KeepsQueue.completes {f : State → State} (h : KeepsQueue f) : CompletesKeepingQueue fun s => .next (f s) :=
  fun s => ⟨f s, rfl, h s⟩

theorem secondTick_completes (order : List TickReader) : CompletesKeepingQueue (execSecondTick order) := by
  refine KeepsQueue.completes fun s => ?_
  split
  · exact resetSecond_keepsQueue s
  · exact (finish_pending _).trans (takeSecond_keepsQueue order s)

theorem mainsSenseChange_completes (level : Bool) : CompletesKeepingQueue (execMainsSenseChange level) := by
  refine KeepsQueue.completes fun s => ?_
  split
  · rfl
  · exact (finish_pending _).trans (pending_of_steady (senseMains_steady level s))

theorem writeEnd_completes : CompletesKeepingQueue execWriteEnd := by
  refine KeepsQueue.completes fun s => ?_
  (repeat' split)
  · rfl
  · exact writeEnds_keepsQueue _ s
  · rfl

theorem resetAsserted_completes (cause : ResetCause) : CompletesKeepingQueue (execResetAsserted cause) := by
  refine KeepsQueue.completes fun s => ?_
  split
  · exact resetAgain_keepsQueue _ _ s
  · exact assertReset_keepsQueue cause s

theorem restart_completes : CompletesKeepingQueue execRestart := by
  refine KeepsQueue.completes fun s => ?_
  split
  · exact (finish_pending _).trans (restartPart_keepsQueue _ s)
  · rfl

theorem linkReset_completes : CompletesKeepingQueue execLinkReset := by
  refine KeepsQueue.completes fun s => ?_
  split
  · exact linkResetOf_keepsQueue _ s
  · rfl

theorem receiveGapTimeout_completes : CompletesKeepingQueue execReceiveGapTimeout := by
  refine KeepsQueue.completes fun s => ?_
  (repeat' split) <;> rfl

theorem frameOverrun_completes : CompletesKeepingQueue execFrameOverrun := by
  refine KeepsQueue.completes fun s => ?_
  (repeat' split) <;> rfl

theorem replySent_completes : CompletesKeepingQueue execReplySent := by
  refine KeepsQueue.completes fun s => ?_
  split <;> rfl

/-- A moment that acts where its condition stands, and leaves the steady part alone. -/
theorem whenDue_completes {f : State → State} (h : ∀ s, steady (f s) = steady s) (due : State → Bool) :
    CompletesKeepingQueue fun s => .next (whenDue due f s) :=
  ((KeepsQueue.of_steady h).whenDue due).completes

/-- A moment that acts on what its condition finds, and leaves the steady part alone. -/
theorem whenFound_completes {α : Type} {f : α → State → State} (h : ∀ x s, steady (f x s) = steady s)
    (due : State → Option α) : CompletesKeepingQueue fun s => .next (whenFound due f s) :=
  (KeepsQueue.whenFound (fun x => .of_steady (h x)) due).completes

/-- An action without a condition that leaves the steady part alone. -/
theorem running_completes {f : State → State} (h : ∀ s, steady (f s) = steady s) :
    CompletesKeepingQueue fun s => .next (running f s) :=
  (KeepsQueue.of_steady h).running.completes

/-- The commands of the service link are one operation on the message they are. -/
theorem exec_of_isMessage {m : Instr} (h : isMessage m = true) (s : State) : exec m s = .next (message m s) := by
  cases m <;> cases h <;> rfl

theorem message_completes {m : Instr} (h : isMessage m = true) : CompletesKeepingQueue (exec m) := fun s =>
  ⟨message m s, exec_of_isMessage h s, message_keepsQueue m s⟩

/-- The table of the commands: each by the operation that is its meaning, and the messages together by theirs. -/
theorem exec_completes (c : Instr) : CompletesKeepingQueue (exec c) := by
  cases c with
  | secondTick order => exact secondTick_completes order
  | meterPulse meter => exact (countPulse_keepsQueue meter).running.completes
  | meteringIntervalExpiry order => exact (intervalExpiry_keepsQueue order).running.completes
  | meterFault => exact (KeepsQueue.whenFound (fun (u, p) => meterFault_keepsQueue u p) _).completes
  | channelReading channel raw => exact (channelReading_keepsQueue channel raw).running.completes
  | changeoverComplete => exact whenDue_completes completeChangeover_steady _
  | probeTrip => exact whenFound_completes (fun t s => probeTrip_steady s t) _
  | reminderTimerExpiry => exact whenDue_completes reminderExpiry_steady _
  | snoozeTimerExpiry => exact whenDue_completes snoozeExpiry_steady _
  | stepEnd => exact whenFound_completes (fun (c, st) s => stepOver_steady s c st) _
  | holdEntry => exact whenFound_completes (fun c s => enterHold_steady s c) _
  | holdRelease => exact whenFound_completes (fun c s => releaseHold_steady s c) _
  | powerSuspensionLimit => exact whenDue_completes powerLimitAbort_steady _
  | runResume => exact whenFound_completes (fun c s => resumeRun_steady s c) _
  | runEnd => exact whenDue_completes runEnd_steady _
  | requeueHoldRelease => exact running_completes fun s => releaseHolds_steady s _
  | dispatch => exact running_completes reevaluateGrant_steady
  | queueAging => exact running_completes ageClasses_steady
  | unitDeferralExpiry => exact running_completes expireDeferrals_steady
  | pressureTrigger => exact whenDue_completes latchPressure_steady _
  | moveGrant shut flt soft => exact running_completes fun s => by simp
  | settleEnd reading => exact whenFound_completes (endSettle_steady reading) _
  | driveTimeout reading => exact whenFound_completes (endDrive_steady reading) _
  | positionConfirmed => exact whenFound_completes confirmMove_steady _
  | extendStall reading => exact whenFound_completes (endExtend_steady reading) _
  | holdEnd => exact whenFound_completes (fun g s => completeMove_steady s g) _
  | episodeEnd => exact whenDue_completes endEpisode_steady _
  | fixtureMatch => exact whenFound_completes (fun e s => fixtureMatch_steady s e) _
  | limitTrip => exact whenFound_completes (fun cause s => trip_steady s cause none) _
  | burstTrip => exact whenDue_completes (fun s => trip_steady s .burst none) _
  | leakIsolated => exact whenDue_completes isolate_steady _
  | probationEnd => exact whenDue_completes endProbation_steady _
  | probationTrip => exact whenDue_completes (fun s => trip_steady s .probation none) _
  | shutoffPassing => exact whenDue_completes raisePassing_steady _
  | dripSuspect => exact whenDue_completes raiseDrip_steady _
  | pollTimerExpiry => exact whenDue_completes pollExpiry_steady _
  | pollEnd outcome => exact whenFound_completes (fun a s => by simp) _
  | podSilent => exact whenFound_completes (fun p s => podSilent_steady s p) _
  | enrolDiscoverEnd serial => exact whenDue_completes (fun s => enrolDiscoverEnd_steady s serial) _
  | enrolAssignEnd confirmed =>
    exact whenFound_completes (fun (o, known) s => enrolAssignEnd_steady s o known confirmed) _
  | listenExpiry => exact whenDue_completes listenExpire_steady _
  | recoveryDiscoverEnd serial => exact whenDue_completes (fun s => recoveryDiscoverEnd_steady s serial) _
  | recoveryAssignEnd confirmed => exact whenDue_completes (fun s => by simp) _
  | releaseAssignEnd confirmed => exact whenFound_completes (fun o s => releaseAssignEnd_steady s o confirmed) _
  | mainsSenseChange level => exact mainsSenseChange_completes level
  | mainsConfirmed => exact whenDue_completes mainsConfirm_steady _
  | dormantSequence => exact whenDue_completes dormantSequence_steady _
  | dormantCloseWaitExpiry => exact whenDue_completes enterDormant_steady _
  | dormantEntry => exact whenDue_completes enterDormant_steady _
  | writeEnd => exact writeEnd_completes
  | resetAsserted cause => exact resetAsserted_completes cause
  | restart => exact restart_completes
  | linkReset => exact linkReset_completes
  | receiveGapTimeout => exact receiveGapTimeout_completes
  | frameDiscard bytes => exact (receive_keepsQueue bytes).completes
  | frameOverrun => exact frameOverrun_completes
  | replySent => exact replySent_completes
  | syncByte => exact (receive_keepsQueue [Config.syncByte]).completes
  | _ => exact message_completes rfl

/-! ## A step (log 2) -/

/-- The command at the front runs with the rest of the queue. -/
theorem step_of_pending_cons {s : State} {c : Instr} {rest : List Instr} (h : s.pending = c :: rest) :
    step s = exec c { s with pending := rest } := by simp only [step, h]

/-- An empty queue idles. -/
theorem step_of_pending_nil {s : State} (h : s.pending = []) : step s = .next s := by simp only [step, h]

end Sys2Proof.Machine
end

section
/-! The statements of the family 00_scope.md. -/

namespace Sys2Proof.Proofs

open Sys2Proof Sys2Proof.Machine

/-- Settles O2, by cases on the command: its meaning is an operation that keeps the queue. -/
theorem everyCommandCompletesAndKeepsTheQueue : Obligations.EveryCommandCompletesAndKeepsTheQueue :=
  exec_completes

/-- Settles O1, by cases on the queue. -/
theorem stepRunsTheFrontCommand : Obligations.StepRunsTheFrontCommand :=
  ⟨fun _ _ _ => step_of_pending_cons rfl, fun _ => step_of_pending_nil⟩

end Sys2Proof.Proofs
end

section
/-! The Brine Monitor, said once for each operation: what an evaluation of the stage finds and writes (R59, R60), what
the bridge test writes (R54), what a level reading does in each case of R49, and what a message or a reading that
changes the brine record leaves of the rest. -/

namespace Sys2Proof.Machine.Salt

/-! ## The stage (R59, R60) -/

/-- The stage is read from the brine record and the settings. -/
theorem stageFound_congr {s t : State} (b : t.brine = s.brine) (c : t.settings = s.settings) :
    stageFound t = stageFound s :=
  calc stageFound t = stageFound { s with brine := t.brine, settings := t.settings } := rfl
    _ = stageFound s := by rw [b, c]

theorem stageFound_out_iff (s : State) :
    stageFound s = .out ↔ saltEstimate s ≤ emptyMass s.settings ∨
      (s.brine.levelMass ≠ none ∧ s.brine.height ≤ s.settings.emptyHeight) := by
  rw [← Option.isSome_iff_ne_none, stageFound]
  split
  · next found => exact iff_of_true rfl found
  · next found => split <;> exact iff_of_false (by simp) found

theorem stageFound_low_iff (s : State) :
    stageFound s = .low ↔ stageFound s ≠ .out ∧
      ((∃ d, daysRemaining s = some d ∧ d ≤ s.settings.lowDays) ∨ saltEstimate s ≤ s.settings.lowMass) := by
  have e : (daysRemaining s).any (· ≤ s.settings.lowDays) = true ↔
      ∃ d, daysRemaining s = some d ∧ d ≤ s.settings.lowDays := by simp [Option.any_eq_true]
  rw [stageFound, ← e]
  split
  · exact iff_of_false (by simp) fun c => c.1 rfl
  · split
    · next found => exact iff_of_true rfl ⟨by simp, found⟩
    · next found => exact iff_of_false (by simp) fun c => found c.2

/-- A stage that worsens loads the reminder, ends the snooze and raises SALT_REMINDER (R60). -/
theorem evalStage_of_worse {s : State} (h : stageRank s.brine.stage < stageRank (stageFound s)) :
    evalStage s = { s with
      brine.stage := stageFound s
      brine.reminder := some (s.settings.reminderInterval * 3600)
      brine.snooze := none
      link.events := insertEvent s.time.counter
        (.saltReminder (stageFound s) (saltEstimate s) (daysRemaining s)) s.link.events } := by
  rw [evalStage, if_pos h]
  rfl

/-- A return to OK ends both timers (R60). -/
theorem evalStage_of_recovered {s : State} (h : stageFound s = .ok) (n : s.brine.stage ≠ .ok) :
    evalStage s = { s with brine.stage := stageFound s, brine.reminder := none, brine.snooze := none } := by
  rw [evalStage, if_neg (by simp [h, stageRank]), if_pos ⟨h, n⟩]

/-- Any other evaluation writes the stage alone (R60). -/
theorem evalStage_of_kept {s : State} (h : stageRank (stageFound s) ≤ stageRank s.brine.stage)
    (n : stageFound s = .ok → s.brine.stage = .ok) : evalStage s = { s with brine.stage := stageFound s } := by
  rw [evalStage, if_neg (Nat.not_lt.mpr h), if_neg fun c => c.2 (n c.1)]

/-- An evaluation writes the stage it finds, the two timers and the events, and nothing else. -/
theorem evalStage_writes (s : State) : ∃ reminder snooze events,
    evalStage s = { s with
      brine.stage := stageFound s, brine.reminder := reminder, brine.snooze := snooze, link.events := events } := by
  by_cases worse : stageRank s.brine.stage < stageRank (stageFound s)
  · exact ⟨_, _, _, evalStage_of_worse worse⟩
  · by_cases recovered : stageFound s = .ok ∧ s.brine.stage ≠ .ok
    · exact ⟨_, _, _, evalStage_of_recovered recovered.1 recovered.2⟩
    · exact ⟨_, _, _, evalStage_of_kept (Nat.not_lt.mp worse) fun h =>
        Decidable.not_not.mp fun n => recovered ⟨h, n⟩⟩

/-- What an evaluation stores is what an evaluation of its result finds. -/
theorem evalStage_stage (s : State) : (evalStage s).brine.stage = stageFound (evalStage s) := by
  obtain ⟨_, _, _, h⟩ := evalStage_writes s
  rw [h]
  rfl

/-- Every kind of event pending before an evaluation is pending after it. -/
theorem evalStage_keeps_kind {s : State} {k : Nat} (h : ∃ p ∈ s.link.events, eventCode p.event = k) :
    ∃ p ∈ (evalStage s).link.events, eventCode p.event = k := by
  simp only [evalStage]
  (repeat' split)
  · exact insertEvent_keeps _ _ _ _ h
  · exact h
  · exact h

/-! ## The frame of the Brine Monitor -/

/-- An operation that is not seen beside the Brine Monitor and its events leaves the rest of the state. -/
theorem restored_of_offBrine {s t : State} (h : offBrine t = offBrine s) :
    { t with brine := s.brine, link.events := s.link.events } = s :=
  congrArg (fun u : State => { u with brine := s.brine, link.events := s.link.events }) h

/-! ## The salt of a run (R52 to R55) -/

/-- The strength factor is one of the three, each standing as 256 where it does not apply (R52). -/
theorem strengthFactor_choice (s : State) : strengthFactor s = dwellFactor s ∨
    strengthFactor s = (if s.brine.bridge = true then s.settings.bridgeFactor else 256) ∨
    strengthFactor s = (if s.brine.stage = .out then s.settings.saltOutFactor else 256) := by
  rw [strengthFactor]
  exact Std.min_eq_or.imp_right fun h => Std.min_eq_or.imp h.trans h.trans

/-- A strength that is a factor as it stands is that factor applying, or else the dwell factor, which is at most 256. -/
theorem applies_or_dwell {applies : Prop} [Decidable applies] {factor dwell strength : Nat} (d : dwell ≤ 256)
    (le : strength ≤ dwell) (h : strength = if applies then factor else 256) :
    strength = dwell ∨ (applies ∧ strength = factor) := by
  split at h
  · next stands => exact .inr ⟨stands, h⟩
  · exact .inl (by omega)

theorem bridgeFound_iff (s : State) :
    bridgeFound s = true ↔ s.brine.bridge = false ∧ s.brine.levelMass ≠ none ∧ s.brine.anchor ≠ none ∧
      3 ≤ s.brine.regens ∧ 4000 ≤ s.brine.modelDrop ∧ s.brine.levelDrop < 1000 := by
  simp [bridgeFound, Option.isSome_iff_ne_none, and_assoc]

/-- The bridge test sets the flag where its conditions stand, and raises its event. -/
theorem bridgeTest_writes (s : State) : ∃ events,
    bridgeTest s = { s with brine.bridge := s.brine.bridge || bridgeFound s, link.events := events } := by
  by_cases h : bridgeFound s = true
  · exact ⟨_, by rw [bridgeTest, if_pos h, h, Bool.or_true]; rfl⟩
  · exact ⟨s.link.events, by rw [bridgeTest, if_neg h, eq_false_of_ne_true h, Bool.or_false]⟩

/-- The brine record on which a completed BRINE step makes the bridge test (R53, R58). -/
def completed (dissolved : Nat) (s : State) : State :=
  { s with
    brine.model := s.brine.model - dissolved
    brine.modelDrop := min 4294967295 (s.brine.modelDrop + min s.brine.model dissolved)
    brine.accum := min 999999 (s.brine.accum + dissolved)
    brine.volume := 0
    brine.regens := min 255 (s.brine.regens + 1) }

/-- A completed BRINE step is its record, the bridge test on it, and an evaluation of the stage (R53, R54). -/
theorem brineCompletion_eq (dissolved : Nat) (s : State) :
    brineCompletion dissolved s = evalStage (bridgeTest (completed dissolved s)) := rfl

/-- A completed BRINE step sets the flag by the bridge test, and writes its record, the stage, the timers and events. -/
theorem brineCompletion_writes (dissolved : Nat) (s : State) : ∃ stage reminder snooze events,
    brineCompletion dissolved s = { completed dissolved s with
      brine.bridge := s.brine.bridge || bridgeFound (completed dissolved s)
      brine.stage := stage, brine.reminder := reminder, brine.snooze := snooze, link.events := events } := by
  obtain ⟨_, hb⟩ := bridgeTest_writes (completed dissolved s)
  obtain ⟨_, _, _, he⟩ := evalStage_writes (bridgeTest (completed dissolved s))
  exact ⟨_, _, _, _, by rw [brineCompletion_eq, he, hb]; rfl⟩

/-- The brine record that an abort during BRINE leaves (R55, R58). -/
def aborted (dissolved elapsed duration : Nat) (s : State) : State :=
  let part := dissolved * elapsed / duration
  { s with
    brine.model := s.brine.model - part
    brine.modelDrop := min 4294967295 (s.brine.modelDrop + min s.brine.model part)
    brine.accum := min 999999 (s.brine.accum + part)
    brine.volume := s.brine.volume - s.brine.volume * elapsed / duration }

/-- An abort is its record and an evaluation of the stage (R55). -/
theorem brineAbort_eq (dissolved elapsed duration : Nat) (s : State) :
    brineAbort dissolved elapsed duration s = evalStage (aborted dissolved elapsed duration s) := rfl

/-! ## The timers (R60) -/

/-- A reminder at 0 is loaded again, and SALT_REMINDER is raised unless a snooze runs. -/
theorem reminderExpiry_eq (s : State) : reminderExpiry s = { s with
    brine.reminder := some (s.settings.reminderInterval * 3600)
    link.events := if s.brine.snooze = none then insertEvent s.time.counter
        (.saltReminder s.brine.stage (saltEstimate s) (daysRemaining s)) s.link.events
      else s.link.events } := by
  cases h : s.brine.snooze <;> simp [reminderExpiry, h] <;> rfl

/-- The reminder's turn of a second (R60). -/
def reminderTurn (s : State) : State := if reminderDue s then reminderExpiry s else s

/-- The snooze's turn of a second (R60). -/
def snoozeTurn (s : State) : State :=
  let t := { s with brine.snooze := s.brine.snooze.map (· - 1) }
  if snoozeDue t then snoozeExpiry t else t

/-- A second counts the brine age and the reminder, and then gives the reminder and the snooze their turns (log 20). -/
theorem brineSecond_turns (s : State) : brineSecond s = snoozeTurn (reminderTurn { s with
    brine.age := min 43200 (s.brine.age + 1), brine.reminder := s.brine.reminder.map (· - 1) }) := rfl

theorem reminderTurn_eq (s : State) : reminderTurn s = { s with
    brine.reminder := if s.brine.reminder = some 0 then some (s.settings.reminderInterval * 3600) else s.brine.reminder
    link.events := if s.brine.reminder = some 0 ∧ s.brine.snooze = none then insertEvent s.time.counter
        (.saltReminder s.brine.stage (saltEstimate s) (daysRemaining s)) s.link.events
      else s.link.events } := by
  by_cases h : s.brine.reminder = some 0
  · simp only [reminderTurn, reminderDue, h, beq_self_eq_true, if_true, true_and]
    exact reminderExpiry_eq s
  · simp [reminderTurn, reminderDue, h]

/-- A snooze counts down and becomes absent at 0. -/
theorem snoozeTurn_eq (s : State) : snoozeTurn s = { s with
    brine.snooze := s.brine.snooze.bind fun n => if n ≤ 1 then none else some (n - 1) } := by
  cases h : s.brine.snooze with
  | none => simp [snoozeTurn, snoozeDue, h]
  | some n =>
    by_cases last : n ≤ 1
    · simp [snoozeTurn, snoozeDue, snoozeExpiry, h, last, Nat.sub_eq_zero_of_le last]
    · simp [snoozeTurn, snoozeDue, h, last, Nat.sub_ne_zero_of_lt (Nat.not_le.mp last)]

/-- What a second leaves of the age, of both timers and of the events (R50, R60). -/
theorem brineSecond_eq (s : State) :
    let left := s.brine.reminder.map (· - 1)
    brineSecond s = { s with
      brine.age := min 43200 (s.brine.age + 1)
      brine.reminder := if left = some 0 then some (s.settings.reminderInterval * 3600) else left
      brine.snooze := s.brine.snooze.bind fun n => if n ≤ 1 then none else some (n - 1)
      link.events := if left = some 0 ∧ s.brine.snooze = none then insertEvent s.time.counter
          (.saltReminder s.brine.stage (saltEstimate s) (daysRemaining s)) s.link.events
        else s.link.events } := by
  rw [brineSecond_turns, reminderTurn_eq, snoozeTurn_eq]
  rfl

/-! ## Level readings (R48, R49) -/

/-- A first reading rebaselines the model (log 30). -/
theorem judgeLevel_of_first {s : State} (h : s.brine.comparison = none) (level : Nat) :
    judgeLevel level s = rebaseline level s := by simp only [judgeLevel, h]

/-- A rise of 5000 g over the comparison mass rebaselines the model, with SALT_DETECTED_ADD (log 30). -/
theorem judgeLevel_of_rise {s : State} {prev level : Nat} (h : s.brine.comparison = some prev)
    (r : prev + 5000 ≤ level) :
    judgeLevel level s = raiseEvent (.saltDetectedAdd s.brine.model level) (rebaseline level s) := by
  simp only [judgeLevel, h, if_pos r]

/-- Short of such a rise the reading can only break a suspected bridge, by a fall of 1000 g (R49). -/
theorem judgeLevel_of_no_rise {s : State} {prev level : Nat} (h : s.brine.comparison = some prev)
    (r : ¬prev + 5000 ≤ level) :
    judgeLevel level s = { s with brine.bridge := s.brine.bridge && decide (prev < level + 1000) } := by
  simp only [judgeLevel, h, if_neg r]
  split
  · next broken =>
    have fallen : ¬prev < level + 1000 := Nat.not_lt.mpr broken.1
    rw [decide_eq_false fallen, Bool.and_false]
  · next whole =>
    have kept : (s.brine.bridge && decide (prev < level + 1000)) = s.brine.bridge := by
      cases b : s.brine.bridge with
      | false => rfl
      | true => simpa [b] using whole
    rw [kept, ← h]

/-- The mass an accepted reading of this distance shows, g (R48). -/
def levelOf (distance : Nat) (c : Settings) : Nat := massOf (saltHeight distance c) c

/-- The level, its comparison mass and the counters an accepted reading leaves for the evaluation of the stage (R48). -/
def levelTaken (distance : Nat) (s : State) : State :=
  let level := levelOf distance s.settings
  let u := judgeLevel level s
  { u with
    brine.height := saltHeight distance s.settings
    brine.levelMass := some level
    brine.comparison := some level
    brine.anchor := some (u.brine.anchor.getD level)
    brine.levelDrop := u.brine.anchor.getD level - level }

theorem acceptLevel_eq (distance : Nat) (s : State) : acceptLevel distance s = evalStage (levelTaken distance s) := rfl

/-- The law of an accepted level: from the brine record before it to the state that it leaves (R48, R49, log 30). -/
abbrev Reconciled (level : Nat) (before : BrineMonitor) (t : State) : Prop :=
  let rebaselined := t.brine.model = level ∧ t.brine.bridge = false ∧ t.brine.regens = 0 ∧
    t.brine.modelDrop = 0 ∧ t.brine.anchor = some level ∧ t.brine.levelDrop = 0
  match before.comparison with
  | none => rebaselined
  | some prev =>
    if prev + 5000 ≤ level then rebaselined ∧ ∃ p ∈ t.link.events, eventCode p.event = 0x14
    else t.brine.model = before.model ∧ t.brine.regens = before.regens ∧ t.brine.modelDrop = before.modelDrop ∧
      t.brine.bridge = (before.bridge && decide (prev < level + 1000)) ∧
      t.brine.anchor = some (before.anchor.getD level) ∧ t.brine.levelDrop = before.anchor.getD level - level

/-- The level an accepted reading takes meets the law. -/
theorem levelTaken_reconciled (distance : Nat) (s : State) :
    Reconciled (levelOf distance s.settings) s.brine (levelTaken distance s) := by
  unfold Reconciled
  cases c : s.brine.comparison with
  | none =>
    simp [levelTaken, judgeLevel_of_first c, rebaseline, clearCountersTo]
  | some prev =>
    by_cases r : prev + 5000 ≤ levelOf distance s.settings
    · have raised := insertEvent_has s.time.counter
        (.saltDetectedAdd s.brine.model (levelOf distance s.settings)) s.link.events
      simp only [levelTaken, judgeLevel_of_rise c r, if_pos r]
      exact ⟨⟨rfl, rfl, rfl, rfl, rfl, Nat.sub_self _⟩, raised⟩
    · simp [levelTaken, judgeLevel_of_no_rise c r, r]

/-- An evaluation of the stage keeps the law. -/
theorem Reconciled.evalStage {level : Nat} {before : BrineMonitor} {t : State} (h : Reconciled level before t) :
    Reconciled level before (evalStage t) := by
  obtain ⟨_, _, _, e⟩ := evalStage_writes t
  unfold Reconciled at h ⊢
  cases c : before.comparison with
  | none => simpa only [c, e] using h
  | some prev =>
    by_cases r : prev + 5000 ≤ level
    · simp only [c, if_pos r] at h ⊢
      exact ⟨by simpa only [e] using h.1, evalStage_keeps_kind h.2⟩
    · simp only [c, if_neg r] at h ⊢
      simpa only [e] using h

/-- The masses an accepted reading leaves, and what it does not reach of the brine record. -/
theorem acceptLevel_masses (distance : Nat) (s : State) :
    (acceptLevel distance s).brine.levelMass = some (levelOf distance s.settings) ∧
      (acceptLevel distance s).brine.comparison = some (levelOf distance s.settings) ∧
      (acceptLevel distance s).brine.volume = s.brine.volume ∧ (acceptLevel distance s).brine.age = s.brine.age ∧
      (acceptLevel distance s).brine.ring = s.brine.ring := by
  have kept : (judgeLevel (levelOf distance s.settings) s).brine.volume = s.brine.volume ∧
      (judgeLevel (levelOf distance s.settings) s).brine.age = s.brine.age ∧
      (judgeLevel (levelOf distance s.settings) s).brine.ring = s.brine.ring := by
    unfold judgeLevel
    (repeat' split) <;> exact ⟨rfl, rfl, rfl⟩
  obtain ⟨_, _, _, e⟩ := evalStage_writes (levelTaken distance s)
  rw [acceptLevel_eq, e]
  exact ⟨rfl, rfl, kept⟩

/-- A reading of an invalid channel makes the level mass absent (R48). -/
theorem levelReading_of_invalid {s : State} (h : s.analog.level.valid = false) :
    levelReading s = evalStage { s with brine.levelMass := none } := by simp [levelReading, h]

/-- A reading while a BRINE or REFILL step runs is passed over (R48). -/
theorem levelReading_of_brineStep {s : State} (h : s.analog.level.valid = true) (r : brineStepRunning s = true) :
    levelReading s = s := by simp [levelReading, h, r]

/-- Any other reading of a valid channel is taken by its last good value (R48). -/
theorem levelReading_of_lastGood {s : State} {d : Nat} (h : s.analog.level.valid = true)
    (r : brineStepRunning s = false) (g : s.analog.level.lastGood = some d) :
    levelReading s = acceptLevel d s := by simp [levelReading, h, r, g]

/-- The channel record after an unsaturated reading (R20). -/
def goodReading (d : Nat) : ChannelRec := { value := some d, valid := true, saturated := 0, lastGood := some d }

/-- A LEVEL reading between the rails is taken whole (R19, R20). -/
theorem scanChannel_level {d : Nat} (lo : 50 < d) (hi : d < 1500) (s : State) :
    scanChannel .level d s = setChannel .level (goodReading d) s := by
  have above : ¬(d : Int) ≤ 50 := by omega
  have below : ¬(1500 : Int) ≤ d := by omega
  have unsaturated : saturates .level d = false :=
    Bool.or_eq_false_iff.mpr ⟨decide_eq_false above, decide_eq_false below⟩
  have clamped : clampReading .level d = d := by
    rw [clampReading, clampInt, rails, Int.min_eq_right (by omega), Int.max_eq_right (by omega), Int.toNat_natCast]
  simp [scanChannel, readChannel, faultsChannel, unsaturated, clamped, goodReading]

/-! ## Actions that change the brine record -/

theorem signals_of_atRest {s : State} (h : AtRest s) : s.signals = [] := h.2.1

theorem writeDue_of_atRest {s : State} (h : AtRest s) : s.writeDue = false := h.2.2.1

/-- What is not seen beside the Brine Monitor keeps what the end of an action asks of a part at rest. -/
theorem quiet_of_offBrine {s t : State} (h : offBrine t = offBrine s) :
    t.signals = s.signals ∧ t.writeDue = s.writeDue ∧ alarmLine t = alarmLine s :=
  ⟨(congrArg State.signals h :), (congrArg State.writeDue h :), (congrArg alarmLine h :)⟩

/-- A LEVEL reading of a part at rest ends with its lines, and reaches no more than the Brine Monitor, its channel and
the link. -/
theorem exec_levelReading {s : State} (h : AtRest s) {d : Nat} (lo : 50 < d) (hi : d < 1500) :
    let u := setChannel .level (goodReading d) s
    exec (.channelReading .level d) s = .next (refreshLines (levelReading u)) ∧
      { refreshLines (levelReading u) with brine := s.brine, analog := s.analog, link := s.link } = s := by
  intro u
  have off := levelReading_offBrine u
  obtain ⟨signals, due, alarm⟩ := quiet_of_offBrine off
  constructor
  · have quiet := finish_of_quiet (signals.trans (signals_of_atRest h)) (due.trans (writeDue_of_atRest h))
    calc exec (.channelReading .level d) s
        = .next (finish (levelReading (scanChannel .level d s))) := congrArg Host.Outcome.next (running_atRest h _)
      _ = .next (refreshLines (levelReading u)) := by rw [scanChannel_level lo hi, quiet]
  · have lines : alarmLine (levelReading u) = s.alarm := alarm.trans h.lines.1.symm
    calc { refreshLines (levelReading u) with brine := s.brine, analog := s.analog, link := s.link }
        = { offBrine (levelReading u) with
            alarm := alarmLine (levelReading u), brine := s.brine, analog := s.analog, link := s.link } := rfl
      _ = s := by rw [off, lines]; rfl

/-- A write that falls due reaches the Store, and the lines that follow it leave it there (R176). -/
theorem beginWrite_written {s t : State} (h : t.store = s.store) :
    ∃ store, beginWrite t = { t with store := store } ∧ Written s (refreshLines { t with store := store }) := by
  unfold Written
  cases w : s.store.writing with
  | none =>
    exact ⟨{ t.store with writing := some (capture t) }, by rw [beginWrite, h, w], rfl,
      congrArg (·.further) h, congrArg (·.image) h⟩
  | some image =>
    exact ⟨{ t.store with further := true }, by rw [beginWrite, h, w], (congrArg (·.writing) h).trans w, rfl,
      congrArg (·.image) h⟩

/-- A message whose effect changes the brine record and sets a write trigger: what it stores, what it leaves, the write
and the reply (R176, R185). -/
theorem message_storesSalt {s : State} (h : Listens s) {m : Instr} {r : Link.Request} (q : Link.requestOf m = some r)
    {st : Status} {record : State → List Byte} {v : State}
    (w : effectOf m (frameTaken s) = (⟨st, record⟩, writeTrigger v)) (off : offBrine v = offBrine (frameTaken s)) :
    (message m s).brine = v.brine ∧ stageFound (message m s) = stageFound v ∧
      { message m s with brine := s.brine, link := s.link, store := s.store } = s ∧ Written s (message m s) ∧
      Sends (replyKind m r.kind) r.tag st (record (writeTrigger v)) (message m s) := by
  obtain ⟨signals, -, alarm⟩ := quiet_of_offBrine off
  have nothing : deliver (writeTrigger v) = writeTrigger v :=
    deliver_of_signals_nil (signals.trans (signals_of_atRest h.1))
  have settled : (sending (replyKind m r.kind) r.tag st (record (writeTrigger v)) (writeTrigger v)).signals = [] :=
    signals.trans (signals_of_atRest h.1)
  have ends : message m s = refreshLines (beginWrite { sending (replyKind m r.kind) r.tag st
      (record (writeTrigger v)) v with writeDue := false }) := by
    rw [message_listens h q, answer_eq, w]
    simp only [nothing]
    rw [finish, deliver_of_signals_nil settled]
    rfl
  obtain ⟨store, wrote, written⟩ := beginWrite_written (s := s)
    (t := { sending (replyKind m r.kind) r.tag st (record (writeTrigger v)) v with writeDue := false })
    (congrArg State.store off :)
  rw [ends, wrote]
  refine ⟨rfl, stageFound_congr rfl rfl, ?_, written, rfl, congrArg (·.link.rx) off, congrArg (·.link.collected) off,
    rfl⟩
  have line : alarmLine v = s.alarm := alarm.trans h.1.lines.1.symm
  calc _ = { offBrine v with
        alarm := alarmLine v, writeDue := false, brine := s.brine, link := s.link, store := s.store } := rfl
    _ = { s with writeDue := false } := by rw [off, line]; rfl
    _ = s := by rw [← writeDue_of_atRest h.1]

/-- A message that clears the counters of a brine record, has the stage evaluated and triggers a write (R46, R56, R57):
what it stores, what it leaves, the write, and the reply with what its record reads of the brine record. -/
theorem message_clearsCounters {s : State} (h : Listens s) {m : Instr} {r : Link.Request}
    (q : Link.requestOf m = some r) {st : Status} {record : State → List Byte} {x : State}
    (w : effectOf m (frameTaken s) = (⟨st, record⟩, writeTrigger (evalStage (clearCounters x))))
    (off : offBrine x = offBrine (frameTaken s)) (reads : ∀ u v : State, u.brine = v.brine → record u = record v) :
    let t := message m s
    t.brine.model = x.brine.model ∧ t.brine.bridge = x.brine.bridge ∧ t.brine.regens = 0 ∧ t.brine.modelDrop = 0 ∧
      t.brine.levelDrop = 0 ∧ t.brine.anchor = x.brine.levelMass ∧ t.brine.stage = stageFound t ∧
      { t with brine := s.brine, link := s.link, store := s.store } = s ∧ Written s t ∧
      Sends (replyKind m r.kind) r.tag st (record t) t := by
  intro t
  obtain ⟨brine, found, frame, written, sends⟩ := message_storesSalt h q w (by simpa using off)
  have stage := evalStage_stage (clearCounters x)
  obtain ⟨_, _, _, stored⟩ := evalStage_writes (clearCounters x)
  rw [← found, ← brine] at stage
  have reply : record t = record (writeTrigger (evalStage (clearCounters x))) := reads _ _ brine
  rw [stored] at brine
  rw [reply]
  exact ⟨congrArg (·.model) brine, congrArg (·.bridge) brine, congrArg (·.regens) brine, congrArg (·.modelDrop) brine,
    congrArg (·.levelDrop) brine, congrArg (·.anchor) brine, stage, frame, written, sends⟩

/-- At stage LOW or OUT an acknowledgement loads the snooze, and changes nothing else but the link (R61). -/
theorem message_ackSalt {s : State} (h : Listens s) (tag : Byte) (salted : s.brine.stage ≠ .ok) :
    message (.ackSalt tag) s = withReply 0xB1 tag .ok (u8 (stageCode s.brine.stage) ++ u32 259200)
      { s with brine.snooze := some 259200 } := by
  have signals := signals_of_atRest h.1
  have snoozed : effectOf (.ackSalt tag) (frameTaken s) = replyOk
      (fun u => u8 (stageCode u.brine.stage) ++ u32 259200) { frameTaken s with brine.snooze := some 259200 } :=
    if_neg salted
  have nothing : deliver { frameTaken s with brine.snooze := some 259200 } =
      { frameTaken s with brine.snooze := some 259200 } := deliver_of_signals_nil signals
  rw [message_listens h rfl, answer_eq, snoozed]
  simp only [replyOk, nothing]
  exact finish_of_lines signals (writeDue_of_atRest h.1) h.1.lines.1 h.1.lines.2

end Sys2Proof.Machine.Salt
end

section
/-! The statements of the family 03_brine_and_salt.md. -/

namespace Sys2Proof.Proofs

open Sys2Proof Sys2Proof.Machine Sys2Proof.Machine.Salt

/-- Settles O13: a factor that does not apply stands as 256, which the dwell factor never exceeds. -/
theorem saltDissolvedByTheWeakestFactor : Obligations.SaltDissolvedByTheWeakestFactor := by
  intro s base dwell
  have dwell_le : dwell ≤ 256 := Nat.min_le_left ..
  have bounded : strengthFactor s ≤ dwell := Nat.min_le_left ..
  refine ⟨strengthFactor s, rfl, bounded, fun bridge => ?_, fun out => ?_, ?_⟩
  · exact Nat.le_trans (Nat.min_le_right ..) (Nat.le_trans (Nat.min_le_left ..) (Nat.le_of_eq (if_pos bridge)))
  · exact Nat.le_trans (Nat.min_le_right ..) (Nat.le_trans (Nat.min_le_right ..) (Nat.le_of_eq (if_pos out)))
  · rcases strengthFactor_choice s with h | h | h
    · exact .inl h
    · exact (applies_or_dwell dwell_le bounded h).imp_right .inl
    · exact (applies_or_dwell dwell_le bounded h).imp_right .inr

/-- Settles O14: a completion is its record, the bridge test and an evaluation of the stage, an abort its record and an
evaluation. -/
theorem brineStepAccountsItsSalt : Obligations.BrineStepAccountsItsSalt := by
  refine ⟨fun dissolved s => ?_, fun dissolved elapsed duration s => ?_⟩
  · obtain ⟨stage, reminder, snooze, events, written⟩ := brineCompletion_writes dissolved s
    have found := evalStage_stage (bridgeTest (completed dissolved s))
    have frame := restored_of_offBrine (brineCompletion_offBrine s dissolved)
    rw [← brineCompletion_eq, written] at found
    rw [written] at frame
    have drop : s.brine.model - (s.brine.model - dissolved) = min s.brine.model dissolved := by omega
    have flag : (s.brine.bridge || bridgeFound (completed dissolved s)) = true ↔ s.brine.bridge = true ∨
        (s.brine.levelMass ≠ none ∧ s.brine.anchor ≠ none ∧ 3 ≤ (completed dissolved s).brine.regens ∧
          4000 ≤ (completed dissolved s).brine.modelDrop ∧ s.brine.levelDrop < 1000) := by
      rw [Bool.or_eq_true, bridgeFound_iff]
      cases b : s.brine.bridge <;> simp [completed, b]
    intro t
    simp only [t, written]
    exact ⟨rfl, by rw [completed, drop], rfl, rfl, rfl, rfl, flag, found, rfl, rfl, rfl, frame⟩
  · obtain ⟨_, _, _, written⟩ := evalStage_writes (aborted dissolved elapsed duration s)
    have found := evalStage_stage (aborted dissolved elapsed duration s)
    have frame := restored_of_offBrine (brineAbort_offBrine s dissolved elapsed duration)
    rw [brineAbort_eq, written] at frame
    rw [written] at found
    intro part t
    simp only [t, brineAbort_eq, written]
    exact ⟨rfl, rfl, rfl, rfl, found, rfl, rfl, frame⟩

/-- Settles O15: an unsaturated reading is scanned whole, and what is accepted follows the cases of R49. -/
theorem levelReadingIsReconciled : Obligations.LevelReadingIsReconciled := by
  refine ⟨fun d s rest lo hi => ?_, fun s => ⟨fun invalid => ?_, levelReading_of_brineStep, fun d valid step good => ?_⟩⟩
  · obtain ⟨runs, frame⟩ := exec_levelReading rest lo hi
    let u := setChannel .level (goodReading d) s
    refine ⟨_, runs, frame, ?_⟩
    split
    · next step =>
      rw [levelReading_of_brineStep (s := u) rfl step]
      exact ⟨rfl, congrArg (fun attn => { s.link with attn := attn }) rest.lines.2.symm⟩
    · next step =>
      have mass : levelOf d s.settings =
          (s.settings.depth - d) * s.settings.crossSection * s.settings.bulkDensity / 10000 := by
        rw [levelOf, saltHeight, Nat.min_eq_right (Nat.sub_le ..)]; rfl
      rw [levelReading_of_lastGood (s := u) rfl (eq_false_of_ne_true step) rfl, ← mass]
      obtain ⟨level, comparison, volume, age, ring⟩ := acceptLevel_masses d u
      exact ⟨level, comparison, evalStage_stage _, volume, age, ring, (levelTaken_reconciled d u).evalStage⟩
  · have frame := restored_of_offBrine (levelReading_offBrine s)
    rw [levelReading_of_invalid invalid] at frame ⊢
    have found := evalStage_stage { s with brine.levelMass := none }
    obtain ⟨_, _, _, written⟩ := evalStage_writes { s with brine.levelMass := none }
    rw [written] at frame found ⊢
    exact ⟨rfl, found, rfl, frame⟩
  · have frame := restored_of_offBrine (levelReading_offBrine s)
    rw [levelReading_of_lastGood valid step good] at frame ⊢
    obtain ⟨level, comparison, -, -, -⟩ := acceptLevel_masses d s
    exact ⟨level, comparison.trans level.symm, evalStage_stage _, frame⟩

/-- Settles O16, by the three ways an evaluation ends and by the turns of a second. -/
theorem saltStageAndItsTimers : Obligations.SaltStageAndItsTimers := by
  refine ⟨fun s => ?_, fun s rest => ⟨fun zero => ?_, fun zero => ?_, fun notDue => ?_, fun notDue => ?_⟩, fun s => ?_⟩
  · have stage : (evalStage s).brine.stage = stageFound s := by
      obtain ⟨_, _, _, written⟩ := evalStage_writes s
      rw [written]
    intro t
    simp only [t, stage]
    refine ⟨stageFound_out_iff s, stageFound_low_iff s, fun worse => ?_, fun ok was => ?_, fun kept ok => ?_, ?_⟩
    · rw [evalStage_of_worse worse]; exact ⟨rfl, rfl, rfl⟩
    · rw [evalStage_of_recovered ok was]; exact ⟨rfl, rfl, rfl⟩
    · rw [evalStage_of_kept kept ok]; exact ⟨rfl, rfl, rfl⟩
    · obtain ⟨_, _, _, written⟩ := evalStage_writes s
      rw [written]
  · have runs : exec .reminderTimerExpiry s = .next (finish (reminderExpiry s)) :=
      congrArg Host.Outcome.next (whenDue_of rest reminderExpiry (by simp [reminderDue, zero]))
    have signals := signals_of_atRest rest
    have due := writeDue_of_atRest rest
    rw [runs, reminderExpiry_eq]
    exact congrArg Host.Outcome.next (finish_of_quiet signals due)
  · have runs : exec .snoozeTimerExpiry s = .next (finish (snoozeExpiry s)) :=
      congrArg Host.Outcome.next (whenDue_of rest snoozeExpiry (by simp [snoozeDue, zero]))
    have signals := signals_of_atRest rest
    have due := writeDue_of_atRest rest
    rw [runs]
    exact congrArg Host.Outcome.next (finish_of_lines signals due rest.lines.1 rest.lines.2)
  · exact congrArg Host.Outcome.next (whenDue_of_not rest reminderExpiry (by simp [reminderDue, notDue]))
  · exact congrArg Host.Outcome.next (whenDue_of_not rest snoozeExpiry (by simp [snoozeDue, notDue]))
  · intro t left
    rw [show t = _ from brineSecond_eq s]
    exact ⟨rfl, rfl, rfl, rfl, rfl⟩

/-- Settles O17: the two messages that change the counters store them, write and reply in one way; ACK_SALT is refused
at stage OK and touches the snooze alone elsewhere. -/
theorem saltMessages : Obligations.SaltMessages := by
  intro tag s listens
  refine ⟨fun mass => ?_, ?_, fun salted => ?_, fun ok => ?_⟩
  · obtain ⟨model, bridge, regens, modelDrop, levelDrop, anchor, stage, frame, written, sends⟩ :=
      message_clearsCounters listens (m := .saltAdded tag mass) rfl (x := { frameTaken s with
        brine.model := min (massCapacity s.settings) (s.brine.model + clampedMass mass) })
        rfl rfl (fun u v same => by simp only [saltAddedRecord, same])
    refine ⟨_, rfl, model, regens, modelDrop, levelDrop, anchor, bridge, stage, frame, written, ?_⟩
    split
    · next whole =>
      have taken : (clampedMass mass != mass.toNat) = false := bne_eq_false_iff_eq.mpr whole
      rw [taken] at sends
      exact sends
    · next cut =>
      have clamped : (clampedMass mass != mass.toNat) = true := bne_iff_ne.mpr cut
      rw [clamped] at sends
      exact sends
  · obtain ⟨model, bridge, regens, modelDrop, levelDrop, anchor, stage, frame, written, sends⟩ :=
      message_clearsCounters listens (m := .clearBridge tag) rfl (x := { frameTaken s with brine.bridge := false })
        rfl rfl (fun u v same => by simp only [same])
    simp only [bridge, regens, modelDrop, levelDrop] at sends
    exact ⟨_, rfl, bridge, model, regens, modelDrop, levelDrop, anchor, stage, frame, written, sends⟩
  · exact congrArg Host.Outcome.next (message_ackSalt listens tag salted)
  · exact congrArg Host.Outcome.next
      (message_refused listens (m := .ackSalt tag) rfl (if_pos ok))

end Sys2Proof.Proofs
end

section
/-! The Filter Monitor's flow sample, said once for each operation: which volume count a sample joins (R105), what a
qualified sample writes (R107, R108), and how the Drain Queue takes the request of the trigger test (R109). -/

namespace Sys2Proof.Machine.Sediment

/-! ## The dispatch order (R91) -/

theorem placeEntry_perm (e : Entry) (l : List Entry) : (placeEntry e l).Perm (e :: l) := by
  induction l with
  | nil => exact .refl _
  | cons x xs ih =>
    rw [placeEntry]
    split
    · exact .refl _
    · exact (ih.cons x).trans (.swap e x xs)

theorem dispatchOrder_perm (l : List Entry) : (dispatchOrder l).Perm l := by
  induction l with
  | nil => exact .refl _
  | cons x xs ih => exact (placeEntry_perm x _).trans (ih.cons x)

theorem entryOf_some {u : HeadUnit} {s : State} {e : Entry} (h : entryOf u s = some e) :
    e ∈ s.queue.entries ∧ e.unit = u :=
  ⟨List.mem_of_find?_eq_some h, by simpa using List.find?_some h⟩

/-! ## Requests to the Drain Queue (R88 to R90) -/

/-- An operation of the Drain Queue leaves it with these entries, in some order, and touches nothing else but the write
trigger and what sets out. -/
def EntriesBecome (l : List Entry) (s t : State) : Prop :=
  t.queue.entries.Perm l ∧ { t with queue := s.queue, writeDue := s.writeDue, signals := s.signals } = s

theorem changeQueue_entriesBecome (l : List Entry) (s : State) : EntriesBecome l s (changeQueue l s) :=
  ⟨dispatchOrder_perm l, rfl⟩

/-- A merge raises the class of the unit's entry, and of no other (R89). -/
theorem mergeEntry_entriesBecome (e : Entry) {who : Asker} (cls : Cls) (s : State) (h : who ≠ .host) :
    EntriesBecome (s.queue.entries.map fun x =>
      if x.unit == e.unit then { e with cls := higherCls e.cls cls } else x) s (mergeEntry e who cls s) := by
  simp only [mergeEntry, if_neg h]
  split
  · exact ⟨.refl _, rfl⟩
  · exact changeQueue_entriesBecome _ s

/-- A new entry joins those of the other units (R88). -/
theorem joinQueue_entriesBecome (u : HeadUnit) (cls : Cls) (reason : Reason) (deferral : Nat) (s : State) :
    EntriesBecome (withoutUnit u s.queue.entries ++ [{
      unit := u, cls := cls, reason := reason, age := 0, entered := s.time.clock
      deferral := max deferral ((unitDeferral u s).getD 0), joined := s.queue.joins }]) s
      (joinQueue u cls reason deferral s) :=
  ⟨dispatchOrder_perm _, rfl⟩

section Request
variable {s : State} {cls : Cls} {reason : Reason}

theorem runNames_iff (u : HeadUnit) (s : State) : runNames u s = true ↔ s.run.ctx.map (·.unit) = some u := by
  simp [runNames]

theorem hasHold_iff (u : HeadUnit) (s : State) : hasHold u s = true ↔ ∃ h ∈ s.run.holds, h.unit = u := by
  simp [hasHold]

/-- No trigger, no request (R109). -/
theorem filterRequest_of_none (h : standingTrigger s = none) : filterRequest s = s := by
  rw [filterRequest, h]

/-- The Drain Queue takes the request of the highest standing trigger (R109). -/
theorem filterRequest_of_some (h : standingTrigger s = some (cls, reason)) :
    filterRequest s = queueRequest .filter .f cls reason 0 s := by
  rw [filterRequest, h]

variable (cls reason)

/-- While F runs its requests are discarded (R90). -/
theorem filterAsks_running (run : s.run.ctx.map (·.unit) = some .f) :
    queueRequest .filter .f cls reason 0 s = s :=
  if_pos ((runNames_iff .f s).2 run)

/-- A hold of F takes the request (R90). -/
theorem filterAsks_held (run : s.run.ctx.map (·.unit) ≠ some .f) (hold : ∃ h ∈ s.run.holds, h.unit = .f) :
    queueRequest .filter .f cls reason 0 s = raiseHold .f cls s := by
  have idle : ¬runNames .f s = true := mt (runNames_iff .f s).1 run
  simp [queueRequest, idle, (hasHold_iff .f s).2 hold]

/-- With F neither running nor held, its request merges into its entry or joins the list (R88, R89). -/
theorem filterAsks_free (run : s.run.ctx.map (·.unit) ≠ some .f) (hold : ∀ h ∈ s.run.holds, h.unit ≠ .f) :
    (∀ e, entryOf .f s = some e → queueRequest .filter .f cls reason 0 s = mergeEntry e .filter cls s) ∧
    (entryOf .f s = none → queueRequest .filter .f cls reason 0 s = joinQueue .f cls reason 0 s) := by
  have idle : ¬runNames .f s = true := mt (runNames_iff .f s).1 run
  have free : ¬hasHold .f s = true := fun h => by
    obtain ⟨x, mem, named⟩ := (hasHold_iff .f s).1 h
    exact hold x mem named
  have noTank : tankNotWaiting .f s = false := rfl
  exact ⟨fun e found => by simp [queueRequest, idle, free, noTank, found],
    fun found => by simp [queueRequest, idle, free, noTank, found]⟩

end Request

/-- A merge keeps the unit's entry with the higher class, and every entry of another unit. -/
theorem EntriesBecome.merged {u : HeadUnit} {s t : State} {e e' : Entry} (found : entryOf u s = some e)
    (h : EntriesBecome (s.queue.entries.map fun x => if x.unit == e.unit then e' else x) s t) :
    e' ∈ t.queue.entries ∧ ∀ x ∈ s.queue.entries, x.unit ≠ u → x ∈ t.queue.entries := by
  obtain ⟨mem, named⟩ := entryOf_some found
  refine ⟨h.1.mem_iff.2 (List.mem_map.2 ⟨e, mem, by simp⟩), fun x within other => ?_⟩
  exact h.1.mem_iff.2 (List.mem_map.2 ⟨x, within, by simp [named, other]⟩)

/-- A join adds its entry and keeps every entry of another unit. -/
theorem EntriesBecome.joined {u : HeadUnit} {s t : State} {e : Entry}
    (h : EntriesBecome (withoutUnit u s.queue.entries ++ [e]) s t) :
    e ∈ t.queue.entries ∧ ∀ x ∈ s.queue.entries, x.unit ≠ u → x ∈ t.queue.entries :=
  ⟨h.1.mem_iff.2 (by simp), fun x within other => h.1.mem_iff.2 (by simp [withoutUnit, within, other])⟩

/-! ## The pressure measure (R107, R108) -/

/-- WANTED is latched where the count stands at 3 with no trigger. -/
theorem pressureDue_iff (s : State) : pressureDue s = true ↔ 3 ≤ s.filter.highCount ∧ s.filter.trigger = none := by
  simp [pressureDue]

/-- Three highs latch WANTED where no trigger is latched. -/
theorem latchPressure_whereDue (s : State) : ∃ due,
    (if pressureDue s then latchPressure s else s) = { s with
      filter.trigger := if 3 ≤ s.filter.highCount ∧ s.filter.trigger = none then some .wanted else s.filter.trigger
      writeDue := due } := by
  by_cases h : pressureDue s = true
  · exact ⟨true, by rw [if_pos h, if_pos ((pressureDue_iff s).1 h)]; rfl⟩
  · exact ⟨s.writeDue, by rw [if_neg h, if_neg (mt (pressureDue_iff s).2 h)]⟩

/-- Twice the limit latches REQUIRED, with its event and its write where it was not latched before. -/
theorem latchClogged_whereDue (limit norm dp rate : Nat) (s : State) : ∃ events due,
    (if 2 * limit ≤ norm ∧ s.filter.trigger ≠ some .required then latchClogged norm dp rate s else s) =
      { s with
        filter.trigger := if 2 * limit ≤ norm then some .required else s.filter.trigger
        link.events := events, writeDue := due } := by
  by_cases twice : 2 * limit ≤ norm
  · by_cases latched : s.filter.trigger = some .required
    · exact ⟨s.link.events, s.writeDue, by rw [if_neg fun c => c.2 latched, if_pos twice, ← latched]⟩
    · exact ⟨_, true, by rw [if_pos ⟨twice, latched⟩, if_pos twice]; rfl⟩
  · exact ⟨s.link.events, s.writeDue, by rw [if_neg fun c => twice c.1, if_neg twice]⟩

/-- A high sample counts, and latches by the count and by twice the limit. -/
theorem highDp_writes (norm dp rate : Nat) (s : State) : ∃ events due,
    highDp norm dp rate s = { s with
      filter.highCount := min 3 (s.filter.highCount + 1)
      filter.trigger := if 2 * s.settings.dpLimit ≤ norm then some .required
        else if 3 ≤ s.filter.highCount + 1 ∧ s.filter.trigger = none then some .wanted else s.filter.trigger
      link.events := events, writeDue := due } := by
  have reached : 3 ≤ min 3 (s.filter.highCount + 1) ↔ 3 ≤ s.filter.highCount + 1 := by omega
  obtain ⟨_, counted⟩ := latchPressure_whereDue { s with filter.highCount := satAdd 3 s.filter.highCount 1 }
  rw [highDp]
  obtain ⟨events, due, clogged⟩ := latchClogged_whereDue s.settings.dpLimit norm dp rate _
  refine ⟨events, due, clogged.trans ?_⟩
  rw [counted]
  simp only [satAdd, reached]

/-- What a qualified sample writes: the measure, the count, the trigger, and an event and a write where one is due. -/
theorem measurePressure_writes (x : Sample) (s : State) : ∃ events due,
    let norm := dpNorm (filterDp s) x.rate
    measurePressure x s = { s with
      filter.lastDp := some norm
      filter.highCount := if norm < s.settings.dpLimit then 0 else min 3 (s.filter.highCount + 1)
      filter.trigger :=
        if s.settings.dpLimit ≤ norm ∧ 2 * s.settings.dpLimit ≤ norm then some .required
        else if s.settings.dpLimit ≤ norm ∧ 3 ≤ s.filter.highCount + 1 ∧ s.filter.trigger = none then some .wanted
        else s.filter.trigger
      link.events := events, writeDue := due } := by
  by_cases low : dpNorm (filterDp s) x.rate < s.settings.dpLimit
  · refine ⟨s.link.events, s.writeDue, ?_⟩
    simp only [measurePressure, if_pos low, Nat.not_le.2 low, false_and, if_false]
  · obtain ⟨events, due, high⟩ := highDp_writes (dpNorm (filterDp s) x.rate) (filterDp s) x.rate
      { s with filter.lastDp := some (dpNorm (filterDp s) x.rate) }
    refine ⟨events, due, ?_⟩
    simp only [measurePressure, if_neg low, Nat.not_lt.1 low, true_and]
    exact high

/-! ## The flow sample (R105, R107) -/

theorem filterQualified_iff (x : Sample) (s : State) :
    filterQualified x s = true ↔ s.filter.state = .inService ∧ isAt .flt 0 s = true ∧ 50 ≤ x.rate ∧ x.rate ≤ 400 ∧
      x.drain = 0 ∧ x.refill = 0 ∧ s.analog.pIn.valid = true ∧ s.analog.pOut.valid = true := by
  simp [filterQualified, posService, and_assoc]

/-- The volume counts are no condition of a qualified sample. -/
@[simp] theorem filterQualified_countFiltered (served : Bool) (supply : Nat) (x : Sample) (s : State) :
    filterQualified x (countFiltered served supply s) = filterQualified x s := by
  cases served <;> rfl

theorem filterSample_of_qualified {served : Bool} {x : Sample} {s : State} (h : filterQualified x s = true) :
    filterSample served x s = measurePressure x (countFiltered served x.supply s) := by
  simp [filterSample, h]

theorem filterSample_of_not_qualified {served : Bool} {x : Sample} {s : State} (h : ¬filterQualified x s = true) :
    filterSample served x s = countFiltered served x.supply s := by
  simp [filterSample, h]

/-- The parts of a sample take the status of V_FLT that stood before the interval was closed (R105). -/
theorem intervalExpiry_eq (order : List SampleReader) (s : State) :
    intervalExpiry order s = (sampleOrder order).foldl
      (fun u r => deliver (samplePart (isAt .flt posService s) (closeInterval s).1 r u)) (closeInterval s).2 := by
  have stood : isAt .flt posService (closeInterval s).2 = isAt .flt posService s :=
    congrArg (fun valves : ValveDrive => valves.flt.status == .atPos posService) (closeInterval_valves s)
  rw [intervalExpiry, publishSample, stood]

/-- A part that is not held in reset takes the expiry and ends its action. -/
theorem exec_meteringIntervalExpiry (order : List SampleReader) {s : State} (h : held s = false) :
    exec (.meteringIntervalExpiry order) s = .next (finish (intervalExpiry order s)) :=
  congrArg Host.Outcome.next (if_neg (by simp [h]))

/-! ## PRESSURE_TRIGGER (R108) -/

theorem refreshLines_of_lines {s : State} (a : s.alarm = alarmLine s) (b : s.link.attn = attnLine s) :
    refreshLines s = s := by
  rw [refreshLines, ← a, ← b]

/-- The latch of a part at rest moves no line and sets nothing out: the action is the latch and its write (R176). -/
theorem latchPressure_finishes {s : State} (h : AtRest s) :
    finish (latchPressure s) = beginWrite { s with filter.trigger := some .wanted } := by
  have signals := Salt.signals_of_atRest h
  have due := Salt.writeDue_of_atRest h
  obtain ⟨alarm, attn⟩ := h.lines
  have settled : finish (latchPressure s) =
      refreshLines (beginWrite { s with filter.trigger := some .wanted, writeDue := false }) := by
    rw [finish, deliver_of_signals_nil (s := latchPressure s) signals, settleWrites_of_due rfl]
    rfl
  obtain ⟨store, wrote, -⟩ := Salt.beginWrite_written (s := s) (t := { s with filter.trigger := some .wanted }) rfl
  rw [settled, ← due, wrote]
  exact refreshLines_of_lines alarm attn

end Sys2Proof.Machine.Sediment
end

section
/-! The statement of the family 06_sediment_filter.md. -/

namespace Sys2Proof.Proofs

open Sys2Proof Sys2Proof.Machine Sys2Proof.Machine.Sediment

/-- Settles O29: each operation of a sample is read off its own lemma, and the request of the highest standing trigger is
followed through its three ways into the Drain Queue. -/
theorem filterCountsAndTriggers : Obligations.FilterCountsAndTriggers := by
  refine ⟨⟨fun _ _ _ => rfl, fun s => ?_⟩, ⟨fun x s => ?_, fun s rest => ⟨fun high absent => ?_, fun notDue => ?_⟩⟩,
    fun order s runs => ?_, fun served x s => ?_, fun s => ⟨filterRequest_of_none, fun cls reason stands => ?_⟩⟩
  · cases latched : s.filter.trigger with
    | none => simp only [standingTrigger, latched, volumeStands, dayStands, decide_eq_true_eq]
    | some trigger => cases trigger <;> simp only [standingTrigger, latched]
  · obtain ⟨_, _, written⟩ := measurePressure_writes x s
    intro dp norm t
    rw [show t = _ from written]
    exact ⟨rfl, rfl, rfl, rfl, rfl, rfl, rfl⟩
  · have due : pressureDue s = true := (pressureDue_iff s).2 ⟨high, absent⟩
    exact congrArg Host.Outcome.next ((whenDue_of rest latchPressure due).trans (latchPressure_finishes rest))
  · have idle : pressureDue s = false := eq_false_of_ne_true fun due => by
      obtain ⟨high, absent⟩ := (pressureDue_iff s).1 due
      exact notDue.elim (Nat.not_lt.2 high) fun latched => latched absent
    exact congrArg Host.Outcome.next (whenDue_of_not rest latchPressure idle)
  · rw [exec_meteringIntervalExpiry order runs, intervalExpiry_eq]
    refine congrArg (fun part => Host.Outcome.next (finish ((sampleOrder order).foldl part _)))
      (funext fun u => funext fun r => congrArg deliver ?_)
    cases r <;> rfl
  · rw [← filterQualified_iff]
    exact ⟨filterSample_of_qualified, filterSample_of_not_qualified⟩
  · rw [filterRequest_of_some stands]
    refine ⟨filterAsks_running cls reason, fun run hold => ?_, fun run free => ?_⟩
    · rw [filterAsks_held cls reason run hold]
      simp only [raiseHold, beq_iff_eq]
    · obtain ⟨merges, joins⟩ := filterAsks_free cls reason run free
      cases found : entryOf .f s with
      | none =>
        have joined := joinQueue_entriesBecome .f cls reason 0 s
        obtain ⟨mem, others⟩ := joined.joined
        rw [joins found]
        exact ⟨⟨_, mem, rfl, rfl, rfl, rfl, Nat.zero_max _⟩, others, joined.2⟩
      | some old =>
        have merged := mergeEntry_entriesBecome old cls s (who := .filter) (by decide)
        obtain ⟨mem, others⟩ := merged.merged found
        rw [merges old found]
        exact ⟨⟨_, mem, (entryOf_some found).2, rfl⟩, others, merged.2⟩

end Sys2Proof.Proofs
end
